-- ==== Sys2Proof/Word.lean ====
section
/-! DEFINITION. The words of the SN7S PSG block: the widths the spec gives its fields, and the one-bit noise type.
Widths: spec/00_scope.md R14, spec/10_state.md R32 to R45. -/

namespace Sys2Proof

/-- A register-write byte (R90: "Every command is exactly one byte, 8 bits"). -/
abbrev Byte := BitVec 8

/-- A tone period and every channel down-counter: 10 bits (R14, R34, R36, R42). -/
abbrev Count := BitVec 10

/-- A volume (attenuation) index: 4 bits (R14, R38, R45). -/
abbrev Volume := BitVec 4

/-- A channel number as the latch byte carries it: 0, 1, 2 the tone channels, 3 the noise channel (R92). -/
abbrev Channel := BitVec 2

/-- The noise period-mode: 2 bits (R14, R41). -/
abbrev PeriodMode := BitVec 2

/-- The noise shift register, held in 16 bits: its top bit stays 0 under the 15-bit tap (R39, R61). -/
abbrev LfsrWord := BitVec 16

/-- One entry of the attenuation table: a natural number below 2^31 (R13). -/
abbrev Amplitude := BitVec 31

/-- One output sample: a signed 16-bit two's-complement value (R78). -/
abbrev Sample := BitVec 16

/-- The noise type, one bit: 0 is Periodic and 1 is White (R40). -/
inductive NoiseType where
  | periodic
  | white
  deriving DecidableEq, Repr

end Sys2Proof
end

