-- ==== Sys2Proof/Config.lean ====
section
/-! DEFINITION. The configuration record of the block (spec/00_scope.md R8 to R13): the shapes of its two parts, and
the one value the spec leaves OPEN with no default (R10), which is a constant with no body. -/

namespace Sys2Proof

/-- The tap configuration that construction derives from `lfsrWidth` (R9). -/
inductive TapConfig where
  | tap15
  | tap16
  | tapNone
  deriving DecidableEq, Repr

/-- What CONSTRUCT fixes (R8, R9, R190): the two rates in Hz and the tap configuration. -/
structure RunConfig where
  clockRate : Nat
  sampleRate : Nat
  tap : TapConfig
  deriving DecidableEq, Repr

/-- What is fixed with the block and is no construct argument (R10 to R13, R190): `WRITE_LATENCY`,
`NOISE_FIXED_PERIOD[0..2]`, `RESET_CLEARS_TIMING` and `AMP_Q16[0..15]`. -/
structure BlockParams where
  writeLatency : Nat
  noiseFixed0 : Count
  noiseFixed1 : Count
  noiseFixed2 : Count
  resetClearsTiming : Bool
  ampQ16 : Vector Amplitude 16
  deriving DecidableEq, Repr

/-- R11: every `NOISE_FIXED_PERIOD` entry is a positive integer of at most 1023 (the bound is the type's). -/
abbrev BlockParams.wf (p : BlockParams) : Prop :=
  p.noiseFixed0 ≠ 0 ∧ p.noiseFixed1 ≠ 0 ∧ p.noiseFixed2 ≠ 0

/-- `WRITE_LATENCY` of the block that `State.reset` stands for. R10: "The parameter is OPEN: the model takes it as an
argument and has no default". It has no body, so no proof can see a value of it (notes/assumptions/1.md). -/
opaque Config.writeLatency : Nat

end Sys2Proof
end

