-- ==== Sys2Proof/Syntax.lean ====
section
/-! DEFINITION. The instructions: one constructor for each row of spec/opcode_table.json, twelve register-write
command forms (spec/30_encoding.md R100) and five host operations (spec/43_host_operations.md R190 to R194). -/

namespace Sys2Proof

/-- The block's command set (R3). A latch form carries its channel in its name, as the table's rows do. A data form
carries none: its channel is the latch state's when it is applied (R93, R98). -/
inductive Instr where
  /-- Latch tone 0 period, low nibble (R111). -/
  | ltp0 (d4 : BitVec 4)
  /-- Latch tone 0 volume (R112). -/
  | ltv0 (v : Volume)
  /-- Latch tone 1 period, low nibble (R111). -/
  | ltp1 (d4 : BitVec 4)
  /-- Latch tone 1 volume (R112). -/
  | ltv1 (v : Volume)
  /-- Latch tone 2 period, low nibble (R111). -/
  | ltp2 (d4 : BitVec 4)
  /-- Latch tone 2 volume (R112). -/
  | ltv2 (v : Volume)
  /-- Latch noise control (R113). -/
  | lnc (ty : NoiseType) (m : PeriodMode)
  /-- Latch noise volume (R114). -/
  | lnv (v : Volume)
  /-- Data, tone period high bits (R115). -/
  | dtp (d6 : BitVec 6)
  /-- Data, tone volume (R116). -/
  | dtv (v : Volume)
  /-- Data, noise control (R117). -/
  | dnc (ty : NoiseType) (m : PeriodMode)
  /-- Data, noise volume (R118). -/
  | dnv (v : Volume)
  /-- Host operation CONSTRUCT; its arguments are integers, as the host may pass any (R190). -/
  | construct (clockRate sampleRate lfsrWidth : Int)
  /-- Host operation WRITE of one byte (R191). -/
  | write (byte : Byte)
  /-- Host operation GENERATE_SAMPLE (R192). -/
  | generateSample
  /-- Host operation GENERATE_SAMPLES of `count` samples (R193). -/
  | generateSamples (count : Nat)
  /-- Host operation RESET (R194). -/
  | reset
  deriving DecidableEq, Repr

end Sys2Proof
end

