-- ==== Sys2Proof/WellFormed.lean ====
section
/-! DEFINITION. Which terms of `Instr` the spec admits. The operand types carry the field widths, so two checks are
left: CONSTRUCT's rates (spec/43_host_operations.md R190) and the latch state a data form requires
(spec/30_encoding.md R100). -/

namespace Sys2Proof

/-- R190: `clockRate` and `sampleRate` are integers of at least 1; `lfsrWidth` is any integer. -/
def Instr.wellFormed : Instr → Bool
  | .construct c r _ => decide (1 ≤ c) && decide (1 ≤ r)
  | .ltp0 _ | .ltv0 _ | .ltp1 _ | .ltv1 _ | .ltp2 _ | .ltv2 _ | .lnc _ _ | .lnv _ => true
  | .dtp _ | .dtv _ | .dnc _ _ | .dnv _ => true
  | .write _ | .generateSample | .generateSamples _ | .reset => true

/-- The twelve command forms, against the five host operations, which have no byte encoding. -/
def Instr.isCommand : Instr → Bool
  | .ltp0 _ | .ltv0 _ | .ltp1 _ | .ltv1 _ | .ltp2 _ | .ltv2 _ | .lnc _ _ | .lnv _ => true
  | .dtp _ | .dtv _ | .dnc _ _ | .dnv _ => true
  | .construct _ _ _ | .write _ | .generateSample | .generateSamples _ | .reset => false

/-- R100: the latch state (channel, isVolume) in which a form exists. A latch form exists in every latch state; a
data form only in the latch state that selects its register. -/
def Instr.fitsLatch (lch : Channel) (lvol : Bool) : Instr → Bool
  | .ltp0 _ | .ltv0 _ | .ltp1 _ | .ltv1 _ | .ltp2 _ | .ltv2 _ | .lnc _ _ | .lnv _ => true
  | .dtp _ => decide (lch ≠ 3#2) && !lvol
  | .dtv _ => decide (lch ≠ 3#2) && lvol
  | .dnc _ _ => decide (lch = 3#2) && !lvol
  | .dnv _ => decide (lch = 3#2) && lvol
  | .construct _ _ _ | .write _ | .generateSample | .generateSamples _ | .reset => true

end Sys2Proof
end

