-- ==== Sys2Proof/Decode.lean ====
section
/-! DEFINITION. The decoder of the register-write byte, total on any bytes, and after it the encoder, written from
spec/30_encoding.md R91 to R100, with the match and mask of each row of spec/opcode_table.json. -/

namespace Sys2Proof

/-! ## Fields of a byte (R91 to R93) -/

/-- R91: `b[7] = 1` marks a latch byte. -/
def isLatchByte (b : Byte) : Bool := b.getLsbD 7

/-- R92: bits [6:5] of a latch byte, the target channel. -/
def latchChannel (b : Byte) : Channel := b.extractLsb' 5 2

/-- R92: bit 4 of a latch byte, 1 for volume and 0 for period or control. -/
def latchIsVolume (b : Byte) : Bool := b.getLsbD 4

/-- R95: the low four bits, a period nibble or a volume. -/
def low4 (b : Byte) : BitVec 4 := b.extractLsb' 0 4

/-- R95: `b[5:0]`, the high bits of a tone period. -/
def low6 (b : Byte) : BitVec 6 := b.extractLsb' 0 6

/-- R95: `b[1:0]`, the noise period-mode. -/
def modeBits (b : Byte) : PeriodMode := b.extractLsb' 0 2

/-- R40: the noise type a bit stands for. -/
def noiseTypeOfBit (b : Bool) : NoiseType := if b then .white else .periodic

/-- R40: the bit of a noise type. -/
def noiseTypeBit : NoiseType → BitVec 1
  | .periodic => 0#1
  | .white => 1#1

/-! ## Decoding (R99) -/

/-- A latch byte's form; it needs no latch state. -/
def decodeLatchByte (b : Byte) : Instr :=
  if latchIsVolume b then
    if latchChannel b = 0#2 then .ltv0 (low4 b)
    else if latchChannel b = 1#2 then .ltv1 (low4 b)
    else if latchChannel b = 2#2 then .ltv2 (low4 b)
    else .lnv (low4 b)
  else
    if latchChannel b = 0#2 then .ltp0 (low4 b)
    else if latchChannel b = 1#2 then .ltp1 (low4 b)
    else if latchChannel b = 2#2 then .ltp2 (low4 b)
    else .lnc (noiseTypeOfBit (b.getLsbD 2)) (modeBits b)

/-- A data byte's form, read against the latch state (R98). -/
def decodeDataByte (lch : Channel) (lvol : Bool) (b : Byte) : Instr :=
  if lch = 3#2 then
    if lvol then .dnv (low4 b) else .dnc (noiseTypeOfBit (b.getLsbD 2)) (modeBits b)
  else
    if lvol then .dtv (low4 b) else .dtp (low6 b)

/-- R99 `Decode(lch, lvol, b)`: total, for no byte is illegal in any latch state (R97). -/
def decodeByte (lch : Channel) (lvol : Bool) (b : Byte) : Instr :=
  if isLatchByte b then decodeLatchByte b else decodeDataByte lch lvol b

/-- Why a byte sequence holds no command. R97 leaves one case: there is no byte. -/
inductive DecodeReject where
  /-- The sequence is empty. Safe: nothing is decoded. -/
  | noByte
  deriving DecidableEq, Repr

/-- Decoding a sequence of bytes: one command is exactly one byte (R90), the rest is handed back. -/
def decode (lch : Channel) (lvol : Bool) : List Byte → Except DecodeReject (Instr × List Byte)
  | [] => .error .noByte
  | b :: rest => .ok (decodeByte lch lvol b, rest)

/-! ## Encoding (R100, R101: ignored bits are 0) -/

/-- The byte of a command form; a host operation has no encoding (R190 to R194). -/
def encode : Instr → List Byte
  | .ltp0 d4 => [0b1000#4 ++ d4]
  | .ltv0 v => [0b1001#4 ++ v]
  | .ltp1 d4 => [0b1010#4 ++ d4]
  | .ltv1 v => [0b1011#4 ++ v]
  | .ltp2 d4 => [0b1100#4 ++ d4]
  | .ltv2 v => [0b1101#4 ++ v]
  | .lnc ty m => [0b11100#5 ++ noiseTypeBit ty ++ m]
  | .lnv v => [0b1111#4 ++ v]
  | .dtp d6 => [0b00#2 ++ d6]
  | .dtv v => [0b0000#4 ++ v]
  | .dnc ty m => [0b00000#5 ++ noiseTypeBit ty ++ m]
  | .dnv v => [0b0000#4 ++ v]
  | .construct _ _ _ => []
  | .write _ => []
  | .generateSample => []
  | .generateSamples _ => []
  | .reset => []

/-- The (match, mask) pair of a row of spec/opcode_table.json; `none` where the table's are null. -/
def tableRow : Instr → Option (Byte × Byte)
  | .ltp0 _ => some (0x80#8, 0xF0#8)
  | .ltv0 _ => some (0x90#8, 0xF0#8)
  | .ltp1 _ => some (0xA0#8, 0xF0#8)
  | .ltv1 _ => some (0xB0#8, 0xF0#8)
  | .ltp2 _ => some (0xC0#8, 0xF0#8)
  | .ltv2 _ => some (0xD0#8, 0xF0#8)
  | .lnc _ _ => some (0xE0#8, 0xF0#8)
  | .lnv _ => some (0xF0#8, 0xF0#8)
  | .dtp _ => some (0x00#8, 0x80#8)
  | .dtv _ => some (0x00#8, 0x80#8)
  | .dnc _ _ => some (0x00#8, 0x80#8)
  | .dnv _ => some (0x00#8, 0x80#8)
  | .construct _ _ _ => none
  | .write _ => none
  | .generateSample => none
  | .generateSamples _ => none
  | .reset => none

/-! ## The host's reading of a table row -/

/-- The bytes of a word of `nbits` bits, the least significant byte first. -/
def tableBytes (nbits w : Nat) : List Byte :=
  (List.range (nbits / 8)).map fun k => BitVec.ofNat 8 (w / 256 ^ k)

/-- The instruction the decoder reads from a table row's bits. A data byte is read against the latch state that reset
leaves, channel 0 and not volume (R58, R98), so all four data rows of the table (match 0, mask 0x80) read as DTP
(notes/assumptions/8.md). -/
def decodeTableWord (nbits w : Nat) : Option Instr :=
  match decode 0#2 false (tableBytes nbits w) with
  | .ok (i, []) => some i
  | .ok (_, _ :: _) => none
  | .error _ => none

end Sys2Proof
end

