-- ==== Sys2Proof/Machine/Defaults.lean ====
section
/-! DEFINITION. The default values of the block's parameters (spec/00_scope.md R11 to R13) and the configuration that
`State.reset` stands on. -/

namespace Sys2Proof.Machine

/-- `AMP_Q16`, the table of spec/42_rate_and_mix.md R171. -/
def ampQ16Default : Vector Amplitude 16 :=
  #v[2147418112#31, 1705754838#31, 1354929229#31, 1076258543#31,
     854902549#31, 679073232#31, 539407042#31, 428466243#31,
     340342835#31, 270343923#31, 214741811#31, 170575484#31,
     135492923#31, 107625854#31, 85490255#31, 0#31]

/-- The parameters at the spec's defaults: `NOISE_FIXED_PERIOD = [16, 32, 64]` (R11), `RESET_CLEARS_TIMING = true`
(R12), `AMP_Q16` (R13), and the open `WRITE_LATENCY` (R10), which has no default. -/
def defaultParams : BlockParams where
  writeLatency := Config.writeLatency
  noiseFixed0 := 16#10
  noiseFixed1 := 32#10
  noiseFixed2 := 64#10
  resetClearsTiming := true
  ampQ16 := ampQ16Default

/-- The rates and tap of the block that `State.reset` is: those of R190's example CONSTRUCT(3579545, 44100, 15).
DESIGN CHOICE, unsafe (notes/assumptions/2.md): the spec takes them as parameters and gives none for reset. -/
def resetConfig : RunConfig where
  clockRate := 3579545
  sampleRate := 44100
  tap := .tap15

end Sys2Proof.Machine
end

