-- ==== Sys2Proof/Machine/State.lean ====
section
/-! DEFINITION. The state of the block as plain data (spec/10_state.md R30 to R61), the reasons a step can stop, and
the state right after reset (R58). -/

namespace Sys2Proof.Machine

/-- A tone channel (R34): period, down-counter, output polarity, volume index. -/
structure Tone where
  period : Count
  counter : Count
  out : Bool
  vol : Volume
  deriving DecidableEq, Repr

/-- The noise channel (R39 to R45). -/
structure Noise where
  lfsr : LfsrWord
  type : NoiseType
  mode : PeriodMode
  counter : Count
  edge : Bool
  out : Bool
  vol : Volume
  deriving DecidableEq, Repr

/-- The latch state (R46): active channel and isVolume flag. -/
structure Latch where
  ch : Channel
  vol : Bool
  deriving DecidableEq, Repr

/-- An entry of the Command Queue (R71): the raw byte, its latch flag (bit 7 of the byte) and its target cycle. -/
structure PendingWrite where
  byte : Byte
  latch : Bool
  target : Nat
  deriving DecidableEq, Repr

/-- The five host operations (R60): what the outside world can send. -/
inductive HostOp where
  | construct (clockRate sampleRate lfsrWidth : Int)
  | write (byte : Byte)
  | generateSample
  | generateSamples (count : Nat)
  | reset
  deriving DecidableEq, Repr

/-- The block's state. `params`, `cfg`, `built` and `atten` are its configuration, `warn` to `rem` its registers
(R34 to R53), `ops` and `samples` the model's two ends of the host interface (R60): the operations the host has sent
and the block has not performed, oldest first, and the samples the block has returned, oldest first. -/
structure State where
  /-- `WRITE_LATENCY`, `NOISE_FIXED_PERIOD`, `RESET_CLEARS_TIMING`, `AMP_Q16` (R10 to R13). -/
  params : BlockParams
  /-- `CLOCK_RATE`, `SAMPLE_RATE`, `TAP_CONFIG` (R8, R9), fixed by CONSTRUCT. -/
  cfg : RunConfig
  /-- The block exists: CONSTRUCT has been performed (R195). -/
  built : Bool
  /-- The attenuation table (R48), built by CONSTRUCT. -/
  atten : Vector Amplitude 16
  /-- The configuration warning (R53). -/
  warn : Bool
  tone0 : Tone
  tone1 : Tone
  tone2 : Tone
  noise : Noise
  latch : Latch
  /-- Chip cycles to the next internal tick, 1 to 16 (R47). -/
  presc : Nat
  /-- The Command Queue, oldest entry first (R49, R72). -/
  queue : List PendingWrite
  /-- The current chip cycle, unbounded (R50). -/
  cycle : Nat
  /-- The rate converter's remainder (R51). -/
  rem : Nat
  ops : List HostOp
  samples : List Sample
  deriving DecidableEq, Repr

/-- Why the machine stops with a fault. No operation reaches either from a state the host can bring about (R210). -/
inductive Fault where
  /-- `raise ContractViolation`: a Dequeue of the empty queue (R216). Raised by `State.dequeue`. Safe: the spec calls
  it a precondition violation. -/
  | contractViolation
  /-- A gap passed to Advance would be negative (R165: the model "should fault, not clamp"). Raised by `advanceTo`.
  Safe: unreachable while R73 holds. -/
  | negativeGap
  deriving DecidableEq, Repr

/-- Why the machine gives no meaning. -/
inductive Refusal where
  /-- An instruction with no meaning yet, by its mnemonic. Raised by `exec` alone. Safe: nothing is claimed of it. -/
  | notModelled (mnemonic : String)
  /-- An operation before CONSTRUCT: the block does not exist (R195, R196). Raised by `whenBuilt`. Safe. -/
  | beforeConstruct
  /-- CONSTRUCT with a rate below 1 (R190: "refuse"). Raised by `execConstruct`. Safe. -/
  | rateBelowOne
  /-- A data form in a latch state in which that byte is another form (R100, R115 to R118). Raised by the data forms'
  meanings. Safe: the decoder never gives such a form (notes/assumptions/7.md). -/
  | formNeedsLatch
  /-- A host operation where a command form is due. Raised by `runCommand`. Safe: the decoder of a queued byte gives
  command forms alone. -/
  | notACommand
  deriving DecidableEq, Repr

/-- A tone channel after reset (R58). The output bit 0 is the spec's decision D7. -/
def Tone.atReset : Tone := { period := 0, counter := 0, out := false, vol := 15 }

/-- The noise channel after reset (R58). The output bit 0 and edge flag 0 are the spec's decision D7. -/
def Noise.atReset : Noise :=
  { lfsr := 1, type := .periodic, mode := 0, counter := 0, edge := false, out := false, vol := 15 }

/-- The block right after reset, every field as R58 and R59 state it, nothing sent and nothing returned. The
configuration it stands on is the model's choice (notes/assumptions/2.md). -/
def State.reset : State where
  params := defaultParams
  cfg := resetConfig
  built := true
  atten := ampQ16Default
  warn := false
  tone0 := Tone.atReset
  tone1 := Tone.atReset
  tone2 := Tone.atReset
  noise := Noise.atReset
  latch := { ch := 0, vol := false }
  presc := 16
  queue := []
  cycle := 0
  rem := 0
  ops := []
  samples := []

end Sys2Proof.Machine
end

