-- ==== Sys2Proof/Machine/Operands.lean ====
section
/-! DEFINITION. Operand forms: which register a byte names (spec/30_encoding.md R94) and how its value bits are
assembled into the register (R95, R122), as pure functions on the fields. -/

namespace Sys2Proof.Machine

/-- R94: the register number of a target, `r = 2 × ch + t`. -/
def registerNumber (ch : Channel) (isVolume : Bool) : Nat :=
  2 * ch.toNat + if isVolume then 1 else 0

/-- The tone channel that a channel number names; `none` for the noise channel (R92). -/
def toneOfChannel (ch : Channel) : Option (Fin 3) :=
  if ch = 0#2 then some 0
  else if ch = 1#2 then some 1
  else if ch = 2#2 then some 2
  else none

/-- The channel number of a tone channel (R92). -/
def channelOfTone : Fin 3 → Channel
  | 0 => 0#2
  | 1 => 1#2
  | 2 => 2#2

/-- R95: `period <- {period[9:4], d4}`. -/
def withPeriodLow (p : Count) (d4 : BitVec 4) : Count := p.extractLsb' 4 6 ++ d4

/-- R95: `period <- {d6, period[3:0]}`. -/
def withPeriodHigh (p : Count) (d6 : BitVec 6) : Count := d6 ++ p.extractLsb' 0 4

/-- R95, tone rows with t = 0 from a latch byte. -/
def Tone.writePeriodLow (d4 : BitVec 4) (t : Tone) : Tone := { t with period := withPeriodLow t.period d4 }

/-- R95, tone rows with t = 0 from a data byte. -/
def Tone.writePeriodHigh (d6 : BitVec 6) (t : Tone) : Tone := { t with period := withPeriodHigh t.period d6 }

/-- R95, tone rows with t = 1. -/
def Tone.writeVolume (v : Volume) (t : Tone) : Tone := { t with vol := v }

/-- R95, noise row with t = 0: type, mode, and the unconditional reseed of the LFSR to 1. -/
def Noise.writeControl (ty : NoiseType) (m : PeriodMode) (n : Noise) : Noise :=
  { n with type := ty, mode := m, lfsr := 1 }

/-- R95, noise row with t = 1. -/
def Noise.writeVolume (v : Volume) (n : Noise) : Noise := { n with vol := v }

/-- R9: the tap configuration of a construct argument `lfsrWidth`. -/
def tapOfWidth (w : Int) : TapConfig :=
  if w = 15 then .tap15 else if w = 16 then .tap16 else .tapNone

/-- The register width under a tap configuration (R39). -/
def lfsrWidth : TapConfig → Nat
  | .tap15 => 15
  | .tap16 => 16
  | .tapNone => 16

end Sys2Proof.Machine
end

