-- ==== Sys2Proof/Machine/Flags.lean ====
section
/-! DEFINITION. The one-bit flags of the block (spec/10_state.md R54): how a tick toggles an output, flips the edge
flag and computes the LFSR's feedback and output bit, and how construction sets the warning. -/

namespace Sys2Proof.Machine

/-- R133, R137: a down-counter reaches zero on this tick when its decremented value is at most 0, that is `c <= 1`. -/
def expires (c : Count) : Bool := decide (c.toNat ≤ 1)

/-- R133: `1 - out`. -/
def toggled (out : Bool) : Bool := !out

/-- R137: `1 - edge`. -/
def flippedEdge (edge : Bool) : Bool := !edge

/-- R137: the flip is a rising edge when it makes the flag 1. -/
def isRising (flipped : Bool) : Bool := flipped

/-- R141: the feedback bit of the tap configuration and the noise type. -/
def feedback (tap : TapConfig) (ty : NoiseType) (x : LfsrWord) : Bool :=
  match tap, ty with
  | .tap15, .periodic => x.getLsbD 0
  | .tap15, .white => x.getLsbD 0 ^^ x.getLsbD 1
  | .tap16, .periodic => x.getLsbD 0
  | .tap16, .white => x.getLsbD 0 ^^ x.getLsbD 3
  | .tapNone, .periodic => false
  | .tapNone, .white => false

/-- R140: `(x >> 1) | (fb << (n - 1))`. -/
def lfsrShifted (tap : TapConfig) (ty : NoiseType) (x : LfsrWord) : LfsrWord :=
  (x >>> 1) ||| ((BitVec.ofBool (feedback tap ty x)).setWidth 16 <<< (lfsrWidth tap - 1))

/-- R140, R142: the noise output is the new bit 0. -/
def lfsrOutput (x : LfsrWord) : Bool := x.getLsbD 0

/-- R53, R190: the configuration warning, 1 exactly under `TAP_NONE`. -/
def configWarning : TapConfig → Bool
  | .tap15 => false
  | .tap16 => false
  | .tapNone => true

end Sys2Proof.Machine
end

