-- ==== Sys2Proof/Machine/Ops.lean ====
section
/-! DEFINITION. The named operations over the state: field accessors and updates, the queue primitives
(spec/00_scope.md R20, spec/20_memory.md R71 to R76), and the two ways an operation is sequenced or refused. The
block takes no exception and returns from none (spec/60_exceptions.md R210, R214), so there is no such operation. -/

namespace Sys2Proof.Machine

/-- The outcome of an operation on the state. -/
abbrev Out := Host.Outcome State Fault Refusal

/-- Run `f` on the next state of `o`; a fault or a refusal ends there. -/
def andThen (o : Out) (f : State → Out) : Out :=
  match o with
  | .next s => f s
  | .fault r => .fault r
  | .refused r => .refused r

/-- R195, R196: before CONSTRUCT the block does not exist, and every operation is refused. -/
def whenBuilt (s : State) (o : Out) : Out := if s.built then o else .refused .beforeConstruct

/-! ## Registers -/

/-- `s.tone[i]`. -/
def State.tone (s : State) : Fin 3 → Tone
  | 0 => s.tone0
  | 1 => s.tone1
  | 2 => s.tone2

/-- `s.tone[i] <- t`. -/
def State.setTone (s : State) (i : Fin 3) (t : Tone) : State :=
  match i with
  | 0 => { s with tone0 := t }
  | 1 => { s with tone1 := t }
  | 2 => { s with tone2 := t }

/-- `s.noise <- n`. -/
def State.setNoise (s : State) (n : Noise) : State := { s with noise := n }

/-- `s.latch.ch <- ch; s.latch.vol <- vol` (R46, R110). -/
def State.setLatch (s : State) (ch : Channel) (vol : Bool) : State := { s with latch := { ch := ch, vol := vol } }

/-- `s.presc <- p`. -/
def State.setPresc (s : State) (p : Nat) : State := { s with presc := p }

/-- `s.cycle <- c`. -/
def State.setCycle (s : State) (c : Nat) : State := { s with cycle := c }

/-- `s.rem <- r`. -/
def State.setRem (s : State) (r : Nat) : State := { s with rem := r }

/-- `s.queue <- q`. -/
def State.setQueue (s : State) (q : List PendingWrite) : State := { s with queue := q }

/-- The host operations still to be performed. -/
def State.setOps (s : State) (ops : List HostOp) : State := { s with ops := ops }

/-- A sample leaves the block (R60, R192). -/
def State.pushSample (s : State) (v : Sample) : State := { s with samples := s.samples ++ [v] }

/-- What CONSTRUCT fixes (R190): the configuration, the attenuation table, the warning. -/
def State.configure (s : State) (cfg : RunConfig) : State :=
  { s with cfg := cfg, built := true, atten := s.params.ampQ16, warn := configWarning cfg.tap }

/-! ## The Command Queue -/

/-- R71: the entry of a byte that takes effect at `target`; its latch flag is bit 7. -/
def pendingWrite (b : Byte) (target : Nat) : PendingWrite :=
  { byte := b, latch := isLatchByte b, target := target }

/-- `Enqueue(q, e)` appends at the tail (R20, R72). -/
def State.enqueue (s : State) (w : PendingWrite) : State := s.setQueue (s.queue ++ [w])

/-- `Dequeue(q)`: the oldest entry and the state without it; of an empty queue a contract violation (R74, R216). -/
def State.dequeue (s : State) : Except Fault (PendingWrite × State) :=
  match s.queue with
  | [] => .error .contractViolation
  | w :: q => .ok (w, s.setQueue q)

/-- R164: `|s.queue| > 0 and Head(s.queue).target <= T`. -/
def State.headDue (s : State) (T : Nat) : Bool :=
  match s.queue with
  | [] => false
  | w :: _ => decide (w.target ≤ T)

/-! ## The register writes shared by the command forms (R111 to R118) -/

/-- A latch byte's tone period write: the latch state first (R110), then the low nibble. -/
def latchTonePeriod (i : Fin 3) (d4 : BitVec 4) (s : State) : State :=
  (s.setLatch (channelOfTone i) false).setTone i ((s.tone i).writePeriodLow d4)

/-- A latch byte's tone volume write. -/
def latchToneVolume (i : Fin 3) (v : Volume) (s : State) : State :=
  (s.setLatch (channelOfTone i) true).setTone i ((s.tone i).writeVolume v)

/-- The operation of a data form that needs a tone channel latched with the given isVolume flag. -/
def withLatchedTone (vol : Bool) (s : State) (f : Fin 3 → State) : Out :=
  match toneOfChannel s.latch.ch with
  | some i => if s.latch.vol = vol then .next (f i) else .refused .formNeedsLatch
  | none => .refused .formNeedsLatch

/-- The operation of a data form that needs the noise channel latched with the given isVolume flag. -/
def withLatchedNoise (vol : Bool) (s : State) (t : State) : Out :=
  if s.latch.ch = 3#2 ∧ s.latch.vol = vol then .next t else .refused .formNeedsLatch

/-! ## Reset (R194) -/

/-- A tone channel's fields after `Reset()` (R194). -/
def toneAfterReset : Tone := { period := 0, counter := 0, out := false, vol := 15 }

/-- The noise channel's fields after `Reset()` (R194). -/
def noiseAfterReset : Noise :=
  { lfsr := 1, type := .periodic, mode := 0, counter := 0, edge := false, out := false, vol := 15 }

/-- `Reset()`: the channel registers, the latch state and the prescaler at their reset values, the queue cleared, and
the timing registers zeroed where `RESET_CLEARS_TIMING` says so. -/
def resetRegisters (s : State) : State :=
  { s with
    tone0 := toneAfterReset
    tone1 := toneAfterReset
    tone2 := toneAfterReset
    noise := noiseAfterReset
    latch := { ch := 0, vol := false }
    presc := 16
    queue := []
    cycle := if s.params.resetClearsTiming then 0 else s.cycle
    rem := if s.params.resetClearsTiming then 0 else s.rem }

end Sys2Proof.Machine
end

