-- ==== Sys2Proof/Machine/ChannelTick.lean ====
section
/-! DEFINITION. How time advances inside the block (spec/41_channel_tick.md R130 to R147): the prescaler, the tone
oscillators and the noise generator. -/

namespace Sys2Proof.Machine

/-- R133 `ToneTick` on one channel. -/
def Tone.tick (t : Tone) : Tone :=
  if expires t.counter then
    if t.period ≠ 0 then { t with out := toggled t.out, counter := t.period }
    else { t with counter := 0 }
  else { t with counter := t.counter - 1 }

/-- R138 `ActivePeriod`: the fixed reload of modes 0 to 2, or tone 2's live period. -/
def activePeriod (p : BlockParams) (mode : PeriodMode) (tone2Period : Count) : Count :=
  if mode = 0#2 then p.noiseFixed0
  else if mode = 1#2 then p.noiseFixed1
  else if mode = 2#2 then p.noiseFixed2
  else tone2Period

/-- R140 `LfsrShift`: the register shifts and the output takes the new bit 0. -/
def Noise.shift (tap : TapConfig) (n : Noise) : Noise :=
  let x := lfsrShifted tap n.type n.lfsr
  { n with lfsr := x, out := lfsrOutput x }

/-- R137 `NoiseTick` with a given reload value. -/
def Noise.tick (tap : TapConfig) (reload : Count) (n : Noise) : Noise :=
  if expires n.counter then
    let n := { n with counter := reload, edge := flippedEdge n.edge }
    if isRising n.edge then n.shift tap else n
  else { n with counter := n.counter - 1 }

/-- `ToneTick(i)` (R133). -/
def toneTick (i : Fin 3) (s : State) : State := s.setTone i (s.tone i).tick

/-- `NoiseTick()` (R137): the reload is read at this tick. -/
def noiseTick (s : State) : State :=
  s.setNoise (s.noise.tick s.cfg.tap (activePeriod s.params s.noise.mode s.tone2.period))

/-- R132 `Tick()`: one internal tick of every channel. -/
def tick (s : State) : State := noiseTick (toneTick 2 (toneTick 1 (toneTick 0 s)))

/-- R130: one chip cycle. -/
def advanceCycle (s : State) : State :=
  if s.presc - 1 = 0 then (tick (s.setPresc (s.presc - 1))).setPresc 16
  else s.setPresc (s.presc - 1)

/-- R130 `Advance(n)`: `n` chip cycles. -/
def advance : Nat → State → State
  | 0, s => s
  | n + 1, s => advance n (advanceCycle s)

/-- R164, R165: advance by the gap to cycle `t` and adopt it as current; a negative gap faults. -/
def advanceTo (t : Nat) (s : State) : Out :=
  if t < s.cycle then .fault .negativeGap else .next ((advance (t - s.cycle) s).setCycle t)

end Sys2Proof.Machine
end

