-- ==== Sys2Proof/Machine/DataWrites.lean ====
section
/-! DEFINITION. The data forms (spec/40_register_writes.md R115 to R118), one meaning each. A data form exists only in
the latch state that selects its register; the decoder gives it in no other (R99). -/

namespace Sys2Proof.Machine

/-- `DTP d6`: the high six bits of the latched tone channel's period (R115). -/
def execDtp (d6 : BitVec 6) (s : State) : Out :=
  whenBuilt s (withLatchedTone false s fun i => s.setTone i ((s.tone i).writePeriodHigh d6))

/-- `DTV v`: the latched tone channel's volume (R116). -/
def execDtv (v : Volume) (s : State) : Out :=
  whenBuilt s (withLatchedTone true s fun i => s.setTone i ((s.tone i).writeVolume v))

/-- `DNC ty, m`: noise control, with the reseed (R117). -/
def execDnc (ty : NoiseType) (m : PeriodMode) (s : State) : Out :=
  whenBuilt s (withLatchedNoise false s (s.setNoise (s.noise.writeControl ty m)))

/-- `DNV v`: noise volume (R118). -/
def execDnv (v : Volume) (s : State) : Out :=
  whenBuilt s (withLatchedNoise true s (s.setNoise (s.noise.writeVolume v)))

end Sys2Proof.Machine
end

