-- ==== Sys2Proof/Machine/LatchWrites.lean ====
section
/-! DEFINITION. The latch forms (spec/40_register_writes.md R111 to R114), one meaning each. -/

namespace Sys2Proof.Machine

/-- `LTP 0, d4`: latch tone 0 period, low nibble (R111). -/
def execLtp0 (d4 : BitVec 4) (s : State) : Out := whenBuilt s (.next (latchTonePeriod 0 d4 s))

/-- `LTV 0, v`: latch tone 0 volume (R112). -/
def execLtv0 (v : Volume) (s : State) : Out := whenBuilt s (.next (latchToneVolume 0 v s))

/-- `LTP 1, d4`: latch tone 1 period, low nibble (R111). -/
def execLtp1 (d4 : BitVec 4) (s : State) : Out := whenBuilt s (.next (latchTonePeriod 1 d4 s))

/-- `LTV 1, v`: latch tone 1 volume (R112). -/
def execLtv1 (v : Volume) (s : State) : Out := whenBuilt s (.next (latchToneVolume 1 v s))

/-- `LTP 2, d4`: latch tone 2 period, low nibble (R111). -/
def execLtp2 (d4 : BitVec 4) (s : State) : Out := whenBuilt s (.next (latchTonePeriod 2 d4 s))

/-- `LTV 2, v`: latch tone 2 volume (R112). -/
def execLtv2 (v : Volume) (s : State) : Out := whenBuilt s (.next (latchToneVolume 2 v s))

/-- `LNC ty, m`: latch noise control, with the reseed (R113). -/
def execLnc (ty : NoiseType) (m : PeriodMode) (s : State) : Out :=
  whenBuilt s (.next ((s.setLatch 3 false).setNoise (s.noise.writeControl ty m)))

/-- `LNV v`: latch noise volume (R114). -/
def execLnv (v : Volume) (s : State) : Out :=
  whenBuilt s (.next ((s.setLatch 3 true).setNoise (s.noise.writeVolume v)))

end Sys2Proof.Machine
end

