-- ==== Sys2Proof/Machine/RateMix.lean ====
section
/-! DEFINITION. The rate converter (spec/42_rate_and_mix.md R160) and the mixer (R170 to R172). -/

namespace Sys2Proof.Machine

/-- R160: the chip cycles the next sample spans. -/
def rateCycles (s : State) : Nat := (s.rem + s.cfg.clockRate) / s.cfg.sampleRate

/-- R160 `RateStep`: the remainder after the whole cycles are taken out. -/
def rateStep (s : State) : State :=
  s.setRem (s.rem + s.cfg.clockRate - rateCycles s * s.cfg.sampleRate)

/-- An entry of the attenuation table (R48, R172). -/
def amplitude (table : Vector Amplitude 16) (v : Volume) : Nat := (table.get v.toFin).toNat

/-- R172: what a channel adds to the accumulator. -/
def contribution (table : Vector Amplitude 16) (out : Bool) (v : Volume) : Nat :=
  if out then amplitude table v else 0

/-- R172: the accumulator after the four channels. -/
def mixSum (s : State) : Nat :=
  contribution s.atten s.tone0.out s.tone0.vol + contribution s.atten s.tone1.out s.tone1.vol
    + contribution s.atten s.tone2.out s.tone2.vol + contribution s.atten s.noise.out s.noise.vol

/-- R18: `clamp(v, lo, hi)`. -/
def clamp (v lo hi : Int) : Int := min (max v lo) hi

/-- R172 `Mix()`: divide by 4 and by 2^16, clamp to the signed 16-bit range. -/
def mix (s : State) : Sample := BitVec.ofInt 16 (clamp ((mixSum s >>> 18 : Nat) : Int) (-32768) 32767)

end Sys2Proof.Machine
end

