-- ==== Sys2Proof/Machine/Sequencer.lean ====
section
/-! DEFINITION. The command sequencer: Apply (spec/40_register_writes.md R110) and GenerateSample
(spec/42_rate_and_mix.md R164). -/

namespace Sys2Proof.Machine

/-- "execute f" of R110 for a decoded form. The decoder of a byte gives no host operation. -/
def runCommand (i : Instr) (s : State) : Out :=
  match i with
  | .ltp0 d4 => execLtp0 d4 s
  | .ltv0 v => execLtv0 v s
  | .ltp1 d4 => execLtp1 d4 s
  | .ltv1 v => execLtv1 v s
  | .ltp2 d4 => execLtp2 d4 s
  | .ltv2 v => execLtv2 v s
  | .lnc ty m => execLnc ty m s
  | .lnv v => execLnv v s
  | .dtp d6 => execDtp d6 s
  | .dtv v => execDtv v s
  | .dnc ty m => execDnc ty m s
  | .dnv v => execDnv v s
  | .construct _ _ _ | .write _ | .generateSample | .generateSamples _ | .reset => .refused .notACommand

/-- R110: a latch byte updates the latch state before anything else. -/
def latchFirst (b : Byte) (s : State) : State :=
  if isLatchByte b then s.setLatch (latchChannel b) (latchIsVolume b) else s

/-- R110 `Apply(b)`. -/
def applyByte (b : Byte) (s : State) : Out :=
  let s := latchFirst b s
  runCommand (decodeByte s.latch.ch s.latch.vol b) s

/-- One round of R164's loop on a dequeued entry: advance to its cycle, adopt it, apply the byte. -/
def applyAt (w : PendingWrite) (s : State) : Out := andThen (advanceTo w.target s) (applyByte w.byte)

/-- R164's loop: the due writes, oldest first. The fuel is the queue's length, and each round removes one entry. -/
def drainDue : Nat → Nat → State → Out
  | 0, _, s => .next s
  | fuel + 1, T, s =>
    if s.headDue T then
      match s.dequeue with
      | .error f => .fault f
      | .ok (w, s) => andThen (applyAt w s) (drainDue fuel T)
    else .next s

/-- R164 after the loop: the remaining gap to `T`, then the mix, whose value leaves the block. -/
def finishSample (T : Nat) (s : State) : Out :=
  andThen (advanceTo T s) fun s => .next (s.pushSample (mix s))

/-- R164 from the sample's target cycle on. -/
def sampleTo (T : Nat) (s : State) : Out := andThen (drainDue s.queue.length T s) (finishSample T)

/-- R164 `GenerateSample()`. -/
def generateSample (s : State) : Out := sampleTo (s.cycle + rateCycles s) (rateStep s)

/-- R193: repeated single-sample generation. -/
def generateSamples : Nat → State → Out
  | 0, s => .next s
  | n + 1, s => andThen (generateSample s) (generateSamples n)

end Sys2Proof.Machine
end

