-- ==== Sys2Proof/Machine/HostOps.lean ====
section
/-! DEFINITION. The five host operations (spec/43_host_operations.md R190 to R194), one meaning each. -/

namespace Sys2Proof.Machine

/-- `CONSTRUCT(clockRate, sampleRate, lfsrWidth)` (R190). A rate below 1 is refused. -/
def execConstruct (clockRate sampleRate width : Int) (s : State) : Out :=
  if clockRate < 1 ∨ sampleRate < 1 then .refused .rateBelowOne
  else
    let cfg : RunConfig :=
      { clockRate := clockRate.toNat, sampleRate := sampleRate.toNat, tap := tapOfWidth width }
    .next (resetRegisters (((s.configure cfg).setCycle 0).setRem 0))

/-- `WRITE(byte)` (R191): stamped with the current cycle plus `WRITE_LATENCY` and queued. -/
def execWrite (b : Byte) (s : State) : Out :=
  whenBuilt s (.next (s.enqueue (pendingWrite b (s.cycle + s.params.writeLatency))))

/-- `GENERATE_SAMPLE()` (R192). -/
def execGenerateSample (s : State) : Out := whenBuilt s (generateSample s)

/-- `GENERATE_SAMPLES(count)` (R193). -/
def execGenerateSamples (count : Nat) (s : State) : Out := whenBuilt s (generateSamples count s)

/-- `RESET()` (R194). -/
def execReset (s : State) : Out := whenBuilt s (.next (resetRegisters s))

end Sys2Proof.Machine
end

