-- ==== Sys2Proof/Machine/Dispatch.lean ====
section
/-! DEFINITION. One arm for each constructor of Instr: one direct call of its meaning. -/

namespace Sys2Proof.Machine

def exec (i : Instr) (s : State) : Host.Outcome State Fault Refusal :=
  match i with
  -- latch forms
  | .ltp0 d4 => Sys2Proof.Machine.execLtp0 d4 s
  | .ltv0 v => Sys2Proof.Machine.execLtv0 v s
  | .ltp1 d4 => Sys2Proof.Machine.execLtp1 d4 s
  | .ltv1 v => Sys2Proof.Machine.execLtv1 v s
  | .ltp2 d4 => Sys2Proof.Machine.execLtp2 d4 s
  | .ltv2 v => Sys2Proof.Machine.execLtv2 v s
  | .lnc ty m => Sys2Proof.Machine.execLnc ty m s
  | .lnv v => Sys2Proof.Machine.execLnv v s
  -- data forms
  | .dtp d6 => Sys2Proof.Machine.execDtp d6 s
  | .dtv v => Sys2Proof.Machine.execDtv v s
  | .dnc ty m => Sys2Proof.Machine.execDnc ty m s
  | .dnv v => Sys2Proof.Machine.execDnv v s
  -- host operations
  | .construct c r w => Sys2Proof.Machine.execConstruct c r w s
  | .write b => Sys2Proof.Machine.execWrite b s
  | .generateSample => Sys2Proof.Machine.execGenerateSample s
  | .generateSamples n => Sys2Proof.Machine.execGenerateSamples n s
  | .reset => Sys2Proof.Machine.execReset s

end Sys2Proof.Machine
end

