-- ==== Sys2Proof/Machine/Fetch.lean ====
section
/-! DEFINITION. Where the block's next operation comes from (spec/10_state.md R31, R60): the host's operations in the
order it sent them, one a step; and how a command byte is placed so that the next step applies it. -/

namespace Sys2Proof.Machine

/-- The instruction of a host operation. -/
def HostOp.toInstr : HostOp → Instr
  | .construct c r w => .construct c r w
  | .write b => .write b
  | .generateSample => .generateSample
  | .generateSamples n => .generateSamples n
  | .reset => .reset

/-- The oldest operation the host has sent, and the state without it. -/
def takeOp (s : State) : Option (Instr × State) :=
  match s.ops with
  | [] => none
  | op :: rest => some (op.toInstr, s.setOps rest)

/-- R221: "Between host operations it does nothing: "no background activity"". -/
def idle (s : State) : Out := .next s

/-- R31, R164: a command byte is fetched from the head of the Command Queue by a sample whose target cycle is not
below its stamp. The byte stands alone in the queue, due at once, and GENERATE_SAMPLE is the next operation. A word
that is not one byte is no command and changes nothing. -/
def placeWord (s : State) (nbits w : Nat) : State :=
  match tableBytes nbits w with
  | [b] => (s.setQueue [pendingWrite b s.cycle]).setOps (.generateSample :: s.ops)
  | [] => s
  | _ :: _ :: _ => s

end Sys2Proof.Machine
end

