-- ==== Sys2Proof/Machine/Step.lean ====
section
/-! DEFINITION. One step of the block: one host operation, atomic as a whole (spec/00_scope.md R15). -/

namespace Sys2Proof.Machine

/-- The step. With no operation sent the block does nothing (R221). -/
def step (s : State) : Host.Outcome State Fault Refusal :=
  match takeOp s with
  | none => idle s
  | some (i, s) => exec i s

/-- The state in which the very next step applies the command byte `w` (notes/assumptions/6.md). -/
def State.withFetchWord (s : State) (nbits w : Nat) : State := placeWord s nbits w

end Sys2Proof.Machine
end

