-- ==== Sys2Proof/Machine/Assembler.lean ====
section
/-! DEFINITION. The spec's own program notation (spec/30_encoding.md R101 to R103), as data: the pseudo-instructions'
expansions and the host operations of a program line. -/

namespace Sys2Proof.Machine

/-- `LTP ch, d4` for a tone channel. -/
def latchPeriodForm : Fin 3 → BitVec 4 → Instr
  | 0, d => .ltp0 d
  | 1, d => .ltp1 d
  | 2, d => .ltp2 d

/-- `LTV ch, v` for ch ≤ 2, else `LNV v` (R102, pseudo VOL). -/
def volumeForm (ch : Channel) (v : Volume) : Instr :=
  if ch = 0#2 then .ltv0 v
  else if ch = 1#2 then .ltv1 v
  else if ch = 2#2 then .ltv2 v
  else .lnv v

/-- R102: `TONE ch, p10` is `LTP ch, p10[3:0]` then `DTP p10[9:4]`. -/
def pseudoTone (i : Fin 3) (p : Count) : List Instr :=
  [latchPeriodForm i (p.extractLsb' 0 4), .dtp (p.extractLsb' 4 6)]

/-- R102: `VOL ch, v`. -/
def pseudoVol (ch : Channel) (v : Volume) : List Instr := [volumeForm ch v]

/-- R102: `NOISE ty, m`. -/
def pseudoNoise (ty : NoiseType) (m : PeriodMode) : List Instr := [.lnc ty m]

/-- R102: `MUTE`. -/
def pseudoMute : List Instr := pseudoVol 0 15 ++ pseudoVol 1 15 ++ pseudoVol 2 15 ++ pseudoVol 3 15

/-- R103: `WR <form>` is one WRITE of the encoded byte; a pseudo-instruction expands to one WR per byte. -/
def lineWR (forms : List Instr) : List HostOp := (forms.flatMap encode).map .write

/-- R103: `WR .byte 0xNN`. -/
def lineByte (b : Byte) : List HostOp := [.write b]

/-- R103: `GEN n` is `GENERATE_SAMPLES(n)`. -/
def lineGEN (n : Nat) : List HostOp := [.generateSamples n]

/-- R103: `RST` is one RESET. -/
def lineRST : List HostOp := [.reset]

end Sys2Proof.Machine
end

