-- ==== Sys2Proof/Safety.lean ====
section
/-! DEFINITION. What the statements about the block are said in: the invariant of its reachable states
(spec/10_state.md R61, spec/20_memory.md R73), the ignored bits of a byte (spec/30_encoding.md R96), and the
cycle-by-cycle reading of a sample (R83, R167) that the sequencer is compared with. -/

namespace Sys2Proof.Machine

/-- R73: the targets in the queue never decrease from head to tail, and each is at least the current cycle. -/
abbrev QueueOrdered (s : State) : Prop :=
  s.queue.Pairwise (fun a b => a.target ≤ b.target) ∧ ∀ w ∈ s.queue, s.cycle ≤ w.target

/-- R61, with R8 (the rates), R48 (the table is `AMP_Q16`), R53 (the warning) and R71 (the latch flag): what holds of a
block that exists. The LFSR is nonzero under the two supported taps only. The bounds on the down-counters are their
types'. `queue_stamped` is DEDUCED (notes/assumptions/18.md): WRITE stamps the current cycle plus the latency (R191) and
the cycle never goes back while an entry is queued (R50), so no stamp lies above the next one WRITE would give. -/
structure BlockInv (s : State) : Prop where
  clock_pos : 1 ≤ s.cfg.clockRate
  sample_pos : 1 ≤ s.cfg.sampleRate
  rem_lt : s.rem < s.cfg.sampleRate
  presc_pos : 1 ≤ s.presc
  presc_le : s.presc ≤ 16
  lfsr_lt : s.noise.lfsr.toNat < 2 ^ lfsrWidth s.cfg.tap
  lfsr_ne : s.cfg.tap ≠ .tapNone → s.noise.lfsr ≠ 0
  queue_ordered : QueueOrdered s
  queue_stamped : ∀ w ∈ s.queue, w.target ≤ s.cycle + s.params.writeLatency
  queue_flags : ∀ w ∈ s.queue, w.latch = isLatchByte w.byte
  atten_eq : s.atten = s.params.ampQ16
  warn_eq : s.warn = decide (s.cfg.tap = .tapNone)

/-- The invariant every step keeps: the parameters are in R11's range, and a block that exists meets `BlockInv`. -/
structure Inv (s : State) : Prop where
  params_wf : s.params.wf
  block : s.built = true → BlockInv s

/-- The bits of a byte that have no effect in a latch state (R96). -/
def ignoredBits (lch : Channel) (lvol : Bool) (b : Byte) : Byte :=
  if b.getLsbD 7 then
    if b.extractLsb' 4 3 = 6#3 then 0x08#8 else 0x00#8
  else
    if lvol then 0x70#8 else if lch = 3#2 then 0x78#8 else 0x40#8

/-- The form of an instruction, as a number: the row of spec/opcode_table.json, from 0. -/
def formIndex : Instr → Nat
  | .ltp0 _ => 0
  | .ltv0 _ => 1
  | .ltp1 _ => 2
  | .ltv1 _ => 3
  | .ltp2 _ => 4
  | .ltv2 _ => 5
  | .lnc _ _ => 6
  | .lnv _ => 7
  | .dtp _ => 8
  | .dtv _ => 9
  | .dnc _ _ => 10
  | .dnv _ => 11
  | .construct _ _ _ => 12
  | .write _ => 13
  | .generateSample => 14
  | .generateSamples _ => 15
  | .reset => 16

/-- Apply, in queue order, every queued byte whose target cycle has come. -/
def applyAllDue (s : State) : Out :=
  (s.queue.takeWhile fun w => decide (w.target ≤ s.cycle)).foldl (fun o w => andThen o (applyByte w.byte))
    (.next (s.setQueue (s.queue.dropWhile fun w => decide (w.target ≤ s.cycle))))

/-- R83, R167: time passes one chip cycle after another; on every cycle the tick that is due comes first and the bytes
due on that cycle after it. -/
def cycleByCycle : Nat → State → Out
  | 0, s => applyAllDue s
  | n + 1, s => andThen (applyAllDue s) fun s => cycleByCycle n ((advance 1 s).setCycle (s.cycle + 1))

/-- Run instructions one after another. -/
def runAll : List Instr → State → Out
  | [], s => .next s
  | i :: rest, s => andThen (exec i s) (runAll rest)

end Sys2Proof.Machine
end

