-- ==== Sys2Proof/Certificates/Slice0/Obligations.lean ====
section
/-! DEFINITION. The statements about the block, each from a numbered rule of spec/ or derived from its sections. -/

open Sys2Proof Sys2Proof.Machine

/-! ## Command forms (spec/40_register_writes.md) -/

/-- R111, for each of the three tone channels: the byte's form, the new period `16 × hi6 + d4`, the latch state (ch, 0),
and nothing else (no counter is reloaded). -/
def Obligations.LatchTonePeriodWritesLowNibble : Prop :=
  ∀ (s : State) (d4 : BitVec 4), s.built = true →
    (∃ t, exec (.ltp0 d4) s = .next t ∧ t.tone0.period.toNat = 16 * (s.tone0.period.toNat / 16) + d4.toNat ∧
      t = { s with latch := { ch := 0, vol := false }, tone0 := { s.tone0 with period := t.tone0.period } }) ∧
    (∃ t, exec (.ltp1 d4) s = .next t ∧ t.tone1.period.toNat = 16 * (s.tone1.period.toNat / 16) + d4.toNat ∧
      t = { s with latch := { ch := 1, vol := false }, tone1 := { s.tone1 with period := t.tone1.period } }) ∧
    (∃ t, exec (.ltp2 d4) s = .next t ∧ t.tone2.period.toNat = 16 * (s.tone2.period.toNat / 16) + d4.toNat ∧
      t = { s with latch := { ch := 2, vol := false }, tone2 := { s.tone2 with period := t.tone2.period } }) ∧
    (∀ (lch : Channel) (lvol : Bool) (b : Byte), b.toNat % 16 = d4.toNat →
      (b &&& 0xF0#8 = 0x80#8 → decodeByte lch lvol b = .ltp0 d4) ∧
      (b &&& 0xF0#8 = 0xA0#8 → decodeByte lch lvol b = .ltp1 d4) ∧
      (b &&& 0xF0#8 = 0xC0#8 → decodeByte lch lvol b = .ltp2 d4))

/-- R112, for each of the three tone channels: the volume fully replaced, the latch state (ch, 1), nothing else. That a
latch byte applies its low bits in volume mode is the spec's own reading (D3, notes/assumptions/22.md). -/
def Obligations.LatchToneVolumeReplacesVolume : Prop :=
  ∀ (s : State) (v : Volume), s.built = true →
    exec (.ltv0 v) s =
      .next { s with latch := { ch := 0, vol := true }, tone0 := { s.tone0 with vol := v } } ∧
    exec (.ltv1 v) s =
      .next { s with latch := { ch := 1, vol := true }, tone1 := { s.tone1 with vol := v } } ∧
    exec (.ltv2 v) s =
      .next { s with latch := { ch := 2, vol := true }, tone2 := { s.tone2 with vol := v } } ∧
    (∀ (lch : Channel) (lvol : Bool) (b : Byte), b.toNat % 16 = v.toNat →
      (b &&& 0xF0#8 = 0x90#8 → decodeByte lch lvol b = .ltv0 v) ∧
      (b &&& 0xF0#8 = 0xB0#8 → decodeByte lch lvol b = .ltv1 v) ∧
      (b &&& 0xF0#8 = 0xD0#8 → decodeByte lch lvol b = .ltv2 v))

/-- R113: type, mode, the unconditional reseed, the latch state (3, 0), and nothing else: output bit, edge flag and
counter stand. That a latch byte applies its low bits, and that nothing else changes, are the spec's own readings (D3 and
D6, notes/assumptions/22.md). -/
def Obligations.LatchNoiseControlReseeds : Prop :=
  ∀ (s : State) (ty : NoiseType) (m : PeriodMode), s.built = true →
    exec (.lnc ty m) s =
      .next { s with
        latch := { ch := 3, vol := false }
        noise := { s.noise with type := ty, mode := m, lfsr := 1 } } ∧
    (∀ (lch : Channel) (lvol : Bool) (b : Byte), b &&& 0xF0#8 = 0xE0#8 →
      b.toNat % 4 = m.toNat → (b.toNat / 4 % 2 = 1 ↔ ty = .white) → decodeByte lch lvol b = .lnc ty m)

/-- R114: the noise volume, the latch state (3, 1), and nothing else. That a latch byte applies its low bits in volume
mode is the spec's own reading (D3, notes/assumptions/22.md). -/
def Obligations.LatchNoiseVolumeReplacesVolume : Prop :=
  ∀ (s : State) (v : Volume), s.built = true →
    exec (.lnv v) s =
      .next { s with latch := { ch := 3, vol := true }, noise := { s.noise with vol := v } } ∧
    (∀ (lch : Channel) (lvol : Bool) (b : Byte), b &&& 0xF0#8 = 0xF0#8 → b.toNat % 16 = v.toNat →
      decodeByte lch lvol b = .lnv v)

/-- R115: in a latch state (ch, 0) with ch a tone channel, the high six bits of that channel's period are replaced and
the low nibble is kept; nothing else changes. Bit 6 of the byte is ignored. -/
def Obligations.DataTonePeriodWritesHighBits : Prop :=
  ∀ (s : State) (d6 : BitVec 6), s.built = true → s.latch.vol = false →
    (s.latch.ch = 0 → ∃ t, exec (.dtp d6) s = .next t ∧
      t.tone0.period.toNat = 16 * d6.toNat + s.tone0.period.toNat % 16 ∧
      t = { s with tone0 := { s.tone0 with period := t.tone0.period } }) ∧
    (s.latch.ch = 1 → ∃ t, exec (.dtp d6) s = .next t ∧
      t.tone1.period.toNat = 16 * d6.toNat + s.tone1.period.toNat % 16 ∧
      t = { s with tone1 := { s.tone1 with period := t.tone1.period } }) ∧
    (s.latch.ch = 2 → ∃ t, exec (.dtp d6) s = .next t ∧
      t.tone2.period.toNat = 16 * d6.toNat + s.tone2.period.toNat % 16 ∧
      t = { s with tone2 := { s.tone2 with period := t.tone2.period } }) ∧
    (s.latch.ch ≠ 3 → ∀ b : Byte, b &&& 0x80#8 = 0x00#8 → b.toNat % 64 = d6.toNat →
      decodeByte s.latch.ch s.latch.vol b = .dtp d6)

/-- R116: in a latch state (ch, 1) with ch a tone channel, that channel's volume is replaced; nothing else changes. Bits
6 to 4 of the byte are ignored. -/
def Obligations.DataToneVolumeReplacesVolume : Prop :=
  ∀ (s : State) (v : Volume), s.built = true → s.latch.vol = true →
    (s.latch.ch = 0 → exec (.dtv v) s = .next { s with tone0 := { s.tone0 with vol := v } }) ∧
    (s.latch.ch = 1 → exec (.dtv v) s = .next { s with tone1 := { s.tone1 with vol := v } }) ∧
    (s.latch.ch = 2 → exec (.dtv v) s = .next { s with tone2 := { s.tone2 with vol := v } }) ∧
    (s.latch.ch ≠ 3 → ∀ b : Byte, b &&& 0x80#8 = 0x00#8 → b.toNat % 16 = v.toNat →
      decodeByte s.latch.ch s.latch.vol b = .dtv v)

/-- R117: in latch state (3, 0), type, mode and the reseed, and nothing else. That the output bit, the edge flag and the
counter stand is the spec's own reading (D6, notes/assumptions/22.md). -/
def Obligations.DataNoiseControlReseeds : Prop :=
  ∀ (s : State) (ty : NoiseType) (m : PeriodMode), s.built = true → s.latch = { ch := 3, vol := false } →
    exec (.dnc ty m) s = .next { s with noise := { s.noise with type := ty, mode := m, lfsr := 1 } } ∧
    (∀ b : Byte, b &&& 0x80#8 = 0x00#8 → b.toNat % 4 = m.toNat → (b.toNat / 4 % 2 = 1 ↔ ty = .white) →
      decodeByte s.latch.ch s.latch.vol b = .dnc ty m)

/-- R118: in latch state (3, 1), the noise volume, and nothing else. -/
def Obligations.DataNoiseVolumeReplacesVolume : Prop :=
  ∀ (s : State) (v : Volume), s.built = true → s.latch = { ch := 3, vol := true } →
    exec (.dnv v) s = .next { s with noise := { s.noise with vol := v } } ∧
    (∀ b : Byte, b &&& 0x80#8 = 0x00#8 → b.toNat % 16 = v.toNat →
      decodeByte s.latch.ch s.latch.vol b = .dnv v)

/-- The model's choice (notes/assumptions/7.md): a data form in a latch state that is not its own is refused by name.
The decoder gives no such form. -/
def Obligations.DataFormsStopOutsideTheirLatchState : Prop :=
  ∀ (s : State) (i : Instr), s.built = true → i.isCommand = true →
    i.fitsLatch s.latch.ch s.latch.vol = false → exec i s = .refused .formNeedsLatch

/-- R94, R95, R110: Apply of any byte in any latch state. A latch byte sets the latch state first; the byte then goes
to the register of the latch state it finds, by R95's assembly; no other register and no other field changes. The rows of
latch bytes in volume and noise mode are the spec's own reading (D3, notes/assumptions/22.md). -/
def Obligations.ApplyByteFollowsRegisterMap : Prop :=
  ∀ (s : State) (b : Byte), s.built = true →
    ∃ t, applyByte b s = .next t ∧
      (∀ (isLatch : Bool) (ch : Channel) (vol : Bool) (r : Nat),
        (isLatch = true ↔ 128 ≤ b.toNat) →
        ch.toNat = (if isLatch then b.toNat / 32 % 4 else s.latch.ch.toNat) →
        (vol = true ↔ if isLatch then b.toNat / 16 % 2 = 1 else s.latch.vol = true) →
        r = 2 * ch.toNat + (if vol then 1 else 0) →
        t.latch = { ch := ch, vol := vol } ∧
        (∀ i : Fin 3, (t.tone i).period.toNat =
          if r = 2 * i.val then
            if isLatch then 16 * ((s.tone i).period.toNat / 16) + b.toNat % 16
            else 16 * (b.toNat % 64) + (s.tone i).period.toNat % 16
          else (s.tone i).period.toNat) ∧
        (∀ i : Fin 3, (t.tone i).vol.toNat = if r = 2 * i.val + 1 then b.toNat % 16 else (s.tone i).vol.toNat) ∧
        t.noise.type = (if r = 6 then (if b.toNat / 4 % 2 = 1 then .white else .periodic) else s.noise.type) ∧
        t.noise.mode.toNat = (if r = 6 then b.toNat % 4 else s.noise.mode.toNat) ∧
        t.noise.lfsr = (if r = 6 then 1 else s.noise.lfsr) ∧
        t.noise.vol.toNat = (if r = 7 then b.toNat % 16 else s.noise.vol.toNat)) ∧
      (∀ i : Fin 3, (t.tone i).counter = (s.tone i).counter ∧ (t.tone i).out = (s.tone i).out) ∧
      t.noise.counter = s.noise.counter ∧ t.noise.edge = s.noise.edge ∧ t.noise.out = s.noise.out ∧
      t = { s with tone0 := t.tone0, tone1 := t.tone1, tone2 := t.tone2, noise := t.noise, latch := t.latch }

/-- R119: no command writes a counter, an output bit, the edge flag, the prescaler, the cycle counter, the remainder,
the queue, the attenuation table or the configuration. That the source's list of writes is complete is the spec's own
reading (D5, D6, notes/assumptions/22.md). -/
def Obligations.CommandsNeverTouchTiming : Prop :=
  ∀ (i : Instr) (s t : State), i.isCommand = true → exec i s = .next t →
    (∀ k : Fin 3, (t.tone k).counter = (s.tone k).counter ∧ (t.tone k).out = (s.tone k).out) ∧
    t.noise.counter = s.noise.counter ∧ t.noise.edge = s.noise.edge ∧ t.noise.out = s.noise.out ∧
    t.presc = s.presc ∧ t.cycle = s.cycle ∧ t.rem = s.rem ∧ t.queue = s.queue ∧ t.atten = s.atten ∧
    t.cfg = s.cfg ∧ t.params = s.params

/-- R81, R238: a byte to a volume or a tone period, applied again, leaves what it left; a byte to the noise control,
applied again after any number of chip cycles, reseeds the LFSR, and that alone; a latch byte sets the latch state. -/
def Obligations.ReapplyingAByteOnlyReseeds : Prop :=
  ∀ (s : State) (b : Byte), s.built = true →
    ∃ t, applyByte b s = .next t ∧
      (t.latch ≠ { ch := 3, vol := false } → applyByte b t = .next t) ∧
      (t.latch = { ch := 3, vol := false } → ∀ n : Nat,
        applyByte b (advance n t) =
          .next { advance n t with noise := { (advance n t).noise with lfsr := 1 } }) ∧
      (b.getLsbD 7 = true → t.latch = { ch := b.extractLsb' 5 2, vol := b.getLsbD 4 })

/-- R77: the two parts of a tone period may be written in either order, and the channel then holds `16 × hi6 + lo4`. -/
def Obligations.PeriodPartsMayComeInEitherOrder : Prop :=
  ∀ (s : State) (i : Fin 3) (d4 : BitVec 4) (d6 : BitVec 6), s.built = true →
    s.latch = { ch := channelOfTone i, vol := false } →
    ∃ t, runAll [latchPeriodForm i d4, .dtp d6] s = .next t ∧ runAll [.dtp d6, latchPeriodForm i d4] s = .next t ∧
      (t.tone i).period.toNat = 16 * d6.toNat + d4.toNat ∧
      t = s.setTone i { s.tone i with period := (t.tone i).period }

/-- R102: the pseudo-instructions' effects: the full 10-bit period, one volume, type and mode with the reseed, and the
silence of all channels, each with the latch state it leaves, and nothing else. The notation is the spec's own (D20). -/
def Obligations.PseudoInstructionsHaveTheirEffects : Prop :=
  ∀ (s : State) (i : Fin 3) (p : Count) (ch : Channel) (v : Volume) (ty : NoiseType) (m : PeriodMode),
    s.built = true →
    runAll (pseudoTone i p) s =
      .next ((s.setLatch (channelOfTone i) false).setTone i { s.tone i with period := p }) ∧
    (∃ t, runAll (pseudoVol ch v) s = .next t ∧ t.latch = { ch := ch, vol := true } ∧
      (∀ k : Fin 3, t.tone k = { s.tone k with vol := if ch.toNat = k.val then v else (s.tone k).vol }) ∧
      t.noise = { s.noise with vol := if ch.toNat = 3 then v else s.noise.vol } ∧
      t = { s with tone0 := t.tone0, tone1 := t.tone1, tone2 := t.tone2, noise := t.noise, latch := t.latch }) ∧
    runAll (pseudoNoise ty m) s =
      .next ((s.setLatch 3 false).setNoise { s.noise with type := ty, mode := m, lfsr := 1 }) ∧
    runAll pseudoMute s =
      .next { s with
        latch := { ch := 3, vol := true }
        tone0 := { s.tone0 with vol := 15 }
        tone1 := { s.tone1 with vol := 15 }
        tone2 := { s.tone2 with vol := 15 }
        noise := { s.noise with vol := 15 } } ∧
    lineWR (pseudoTone i p) =
      [.write (0x80#8 + 32#8 * BitVec.ofNat 8 i.val + BitVec.ofNat 8 (p.toNat % 16)),
       .write (BitVec.ofNat 8 (p.toNat / 16))]

/-! ## Encoding (spec/30_encoding.md) -/

/-- Decoding the encoding of a command form, in any latch state in which the form exists, gives it back with every
operand, and hands back the bytes after it. -/
def Obligations.DecodeOfEncodeGivesTheFormBack : Prop :=
  ∀ (i : Instr) (lch : Channel) (lvol : Bool) (rest : List Byte),
    i.isCommand = true → i.fitsLatch lch lvol = true → decode lch lvol (encode i ++ rest) = .ok (i, rest)

/-- R97, R99, R100: every byte, in every latch state, is a command form that exists there and whose opcode-table row
admits the byte, and of no other form. -/
def Obligations.EveryByteIsExactlyOneForm : Prop :=
  ∀ (lch : Channel) (lvol : Bool) (b : Byte),
    (decodeByte lch lvol b).isCommand = true ∧ (decodeByte lch lvol b).fitsLatch lch lvol = true ∧
    (∃ m k, tableRow (decodeByte lch lvol b) = some (m, k) ∧ b &&& k = m) ∧
    (∀ (j : Instr) (m k : Byte), j.fitsLatch lch lvol = true → tableRow j = some (m, k) → b &&& k = m →
      formIndex j = formIndex (decodeByte lch lvol b))

/-- R96: two bytes decode alike in a latch state exactly when they differ in ignored bits alone, and such bytes have
one effect. -/
def Obligations.IgnoredBitsAreExactlyThoseWithoutEffect : Prop :=
  (∀ (lch : Channel) (lvol : Bool) (b c : Byte),
    decodeByte lch lvol b = decodeByte lch lvol c ↔ (b ^^^ c) &&& ~~~(ignoredBits lch lvol b) = 0#8) ∧
  (∀ (s : State) (b c : Byte), (b ^^^ c) &&& ~~~(ignoredBits s.latch.ch s.latch.vol b) = 0#8 →
    applyByte b s = applyByte c s)

/-- The decode vectors of spec/95_test_vectors.md L2.1, one word of each form and the ignored bits. -/
def Obligations.DecodeVectorsOfTheSpec : Prop :=
  (∀ (lch : Channel) (lvol : Bool),
    decodeByte lch lvol 0b10001010#8 = .ltp0 10 ∧ decodeByte lch lvol 0b10011111#8 = .ltv0 15 ∧
    decodeByte lch lvol 0b10100101#8 = .ltp1 5 ∧ decodeByte lch lvol 0b10111010#8 = .ltv1 10 ∧
    decodeByte lch lvol 0b11000001#8 = .ltp2 1 ∧ decodeByte lch lvol 0b11010000#8 = .ltv2 0 ∧
    decodeByte lch lvol 0b11100111#8 = .lnc .white 3 ∧ decodeByte lch lvol 0b11101111#8 = .lnc .white 3 ∧
    decodeByte lch lvol 0b11111111#8 = .lnv 15) ∧
  decodeByte 1 false 0b00111111#8 = .dtp 0x3F ∧ decodeByte 1 false 0b01111111#8 = .dtp 0x3F ∧
  decodeByte 2 true 0b01111111#8 = .dtv 15 ∧ decodeByte 2 true 0b00000011#8 = .dtv 3 ∧
  decodeByte 3 false 0b00000101#8 = .dnc .white 1 ∧ decodeByte 3 false 0b01111101#8 = .dnc .white 1 ∧
  decodeByte 3 true 0b00010010#8 = .dnv 2

/-! ## The step (spec/00_scope.md R15, spec/42_rate_and_mix.md R164) -/

/-- A step runs the decoded instruction. The oldest host operation is performed; with none the block does nothing
(R221). A sample that finds a due byte at the head of the queue advances to its cycle, runs `exec` of the form the byte
decodes to against the latch state as it stands (R98), and goes on with the rest of the queue. -/
def Obligations.StepRunsTheDecodedInstruction : Prop :=
  (∀ (s : State) (op : HostOp) (rest : List HostOp), s.ops = op :: rest →
    step s = exec op.toInstr { s with ops := rest }) ∧
  (∀ s : State, s.ops = [] → step s = .next s) ∧
  (∀ (s : State) (rest : List HostOp), s.built = true → s.ops = .generateSample :: rest →
    step s = sampleTo (s.cycle + rateCycles s) (rateStep { s with ops := rest })) ∧
  (∀ (s : State) (w : PendingWrite) (q : List PendingWrite) (T : Nat),
    s.queue = w :: q → s.cycle ≤ w.target → w.target ≤ T →
    sampleTo T s =
      andThen (exec (decodeByte s.latch.ch s.latch.vol w.byte)
          { advance (w.target - s.cycle) s with queue := q, cycle := w.target })
        (sampleTo T))

/-- A word placed by `withFetchWord` is what the very next step runs: the step is a GENERATE_SAMPLE whose one due byte
it is (notes/assumptions/6.md), and the sample ends as R164 says. -/
def Obligations.FetchedWordRunsInTheNextStep : Prop :=
  ∀ (s : State) (b : Byte), s.built = true →
    step (s.withFetchWord 8 b.toNat) =
      andThen (exec (decodeByte s.latch.ch s.latch.vol b) (rateStep { s with queue := [] }))
        (finishSample (s.cycle + rateCycles s))

/-! ## Prescaler and tone oscillators (spec/41_channel_tick.md) -/

/-- R131: the closed form of `Advance(n)`, and its additivity, over the countdown prescaler that is the spec's own choice
(D8, notes/assumptions/22.md). -/
def Obligations.AdvanceClosedForm : Prop :=
  (∀ (s : State) (n : Nat), 1 ≤ s.presc → s.presc ≤ 16 →
    advance n s = (tick^[(16 - s.presc + n) / 16] s).setPresc (16 - (16 - s.presc + n) % 16)) ∧
  (∀ (s : State) (a b : Nat), advance b (advance a s) = advance (a + b) s)

/-- R132: an internal tick steps every channel once, in any order. -/
def Obligations.TickOrderDoesNotMatter : Prop :=
  ∀ (s : State) (l : List (State → State)),
    l.Perm [toneTick 0, toneTick 1, toneTick 2, noiseTick] → l.foldl (fun u f => f u) s = tick s

/-- R133: one tick of one tone channel. That a counter at 0 expires, and is held at 0 where the period is 0, is the
spec's own choice (D4, notes/assumptions/22.md). -/
def Obligations.ToneTickCountsDownAndToggles : Prop :=
  ∀ (s : State) (i : Fin 3),
    ((s.tone i).counter.toNat ≤ 1 → (s.tone i).period ≠ 0 →
      toneTick i s = s.setTone i { s.tone i with out := !(s.tone i).out, counter := (s.tone i).period }) ∧
    ((s.tone i).counter.toNat ≤ 1 → (s.tone i).period = 0 →
      toneTick i s = s.setTone i { s.tone i with counter := 0 }) ∧
    (∀ c : Count, (s.tone i).counter.toNat = c.toNat + 1 → 1 ≤ c.toNat →
      toneTick i s = s.setTone i { s.tone i with counter := c })

/-- R134: while a tone period is 0 the output is frozen, however many chip cycles pass, and the counter decrements
until it is held at 0. That the counter is held at 0, and does not go below, is the spec's own choice (D4, conflict C8,
notes/assumptions/22.md). -/
def Obligations.PeriodZeroFreezesTheOutput : Prop :=
  ∀ (s : State) (i : Fin 3) (n : Nat), (s.tone i).period = 0 →
    ((advance n s).tone i).out = (s.tone i).out ∧ ((advance n s).tone i).period = 0 ∧
    ((tick^[n] s).tone i).counter.toNat = (s.tone i).counter.toNat - n

/-- R135, R136: with period P > 0 the output toggles on tick number n + 1 exactly when the first expiry, at tick
`max c 1` for a counter that stands at c, is reached and the ticks since it are a multiple of P; from a full prescaler,
a tick is 16 chip cycles. That a counter at 0 expires and that a period write reloads no counter are the spec's own
choices (D4, D5, notes/assumptions/22.md). -/
def Obligations.ToneTogglesOnceEveryPeriod : Prop :=
  ∀ (s : State) (i : Fin 3) (n : Nat), (s.tone i).period ≠ 0 →
    (((tick^[n + 1] s).tone i).out ≠ ((tick^[n] s).tone i).out ↔
      max (s.tone i).counter.toNat 1 ≤ n + 1 ∧
        (n + 1 - max (s.tone i).counter.toNat 1) % (s.tone i).period.toNat = 0) ∧
    (s.presc = 16 → (advance (16 * n) s).tone i = (tick^[n] s).tone i)

/-! ## Noise generator (spec/41_channel_tick.md) -/

/-- R137, R138: one noise tick; the reload is the mode's fixed period, or tone 2's period as it stands at this tick. Expiry
at 0, the rising edge and the third tone channel are the spec's own choices (D4, D18, D25, notes/assumptions/22.md). -/
def Obligations.NoiseTickReloadsAndShiftsOnRisingEdges : Prop :=
  ∀ (s : State) (r : Count),
    (s.noise.mode = 0 → r = s.params.noiseFixed0) → (s.noise.mode = 1 → r = s.params.noiseFixed1) →
    (s.noise.mode = 2 → r = s.params.noiseFixed2) → (s.noise.mode = 3 → r = s.tone2.period) →
    (s.noise.counter.toNat ≤ 1 → s.noise.edge = true →
      noiseTick s = { s with noise := { s.noise with counter := r, edge := false } }) ∧
    (s.noise.counter.toNat ≤ 1 → s.noise.edge = false →
      noiseTick s = { s with noise := { s.noise with
        counter := r, edge := true
        lfsr := lfsrShifted s.cfg.tap s.noise.type s.noise.lfsr
        out := (lfsrShifted s.cfg.tap s.noise.type s.noise.lfsr).getLsbD 0 } }) ∧
    (∀ c : Count, s.noise.counter.toNat = c.toNat + 1 → 1 ≤ c.toNat →
      noiseTick s = { s with noise := { s.noise with counter := c } })

/-- R140, R141: the shift as arithmetic on an n-bit register, with the feedback of each tap configuration and noise
type; the result is below 2^n and the output bit is the old bit 1. The row of `TAP_NONE` is the spec's own reading
(D14, notes/assumptions/22.md). -/
def Obligations.LfsrShiftWithTheConfiguredTap : Prop :=
  ∀ (tap : TapConfig) (ty : NoiseType) (x : LfsrWord) (n : Nat),
    n = (match tap with | .tap15 => 15 | .tap16 => 16 | .tapNone => 16) → x.toNat < 2 ^ n →
    (lfsrShifted tap ty x).toNat =
      x.toNat / 2 + 2 ^ (n - 1) *
        (match tap, ty with
          | .tap15, .periodic => x.toNat % 2
          | .tap15, .white => (x.toNat + x.toNat / 2) % 2
          | .tap16, .periodic => x.toNat % 2
          | .tap16, .white => (x.toNat + x.toNat / 8) % 2
          | .tapNone, _ => 0) ∧
    (lfsrShifted tap ty x).toNat < 2 ^ n ∧
    (∀ m : Noise, m.lfsr = x → m.type = ty →
      m.shift tap = { m with lfsr := lfsrShifted tap ty x, out := x.getLsbD 1 })

/-- R143: under the two supported taps a nonzero register of the tap's width never becomes 0, however many shifts. -/
def Obligations.SupportedLfsrIsNeverZero : Prop :=
  ∀ (tap : TapConfig) (ty : NoiseType) (x : LfsrWord) (k : Nat),
    tap ≠ .tapNone → x.toNat < 2 ^ lfsrWidth tap → x ≠ 0 →
    (lfsrShifted tap ty)^[k] x ≠ 0 ∧ ((lfsrShifted tap ty)^[k] x).toNat < 2 ^ lfsrWidth tap

/-- R144, the Periodic type: from seed 1 the sequence has period n exactly, and one output bit in every n is 1. -/
def Obligations.PeriodicNoiseSequencePeriods : Prop :=
  ∀ k : Nat,
    ((lfsrShifted .tap15 .periodic)^[k] 1 = 1 ↔ k % 15 = 0) ∧
    ((lfsrShifted .tap16 .periodic)^[k] 1 = 1 ↔ k % 16 = 0) ∧
    (lfsrOutput ((lfsrShifted .tap15 .periodic)^[k] 1) = true ↔ k % 15 = 0) ∧
    (lfsrOutput ((lfsrShifted .tap16 .periodic)^[k] 1) = true ↔ k % 16 = 0)

/-- R144, the White type: from seed 1 the sequence has period 32767 with the 15-bit tap and 57337 with the 16-bit tap,
and no smaller one. -/
def Obligations.WhiteNoiseSequencePeriods : Prop :=
  ∀ k : Nat,
    ((lfsrShifted .tap15 .white)^[k] 1 = 1 ↔ k % 32767 = 0) ∧
    ((lfsrShifted .tap16 .white)^[k] 1 = 1 ↔ k % 57337 = 0)

/-- R145: under `TAP_NONE` a shift of the register 0 or 1 gives register 0 and output 0, and from then on the noise
stays silent, however many chip cycles pass. Zero feedback for both noise types is the spec's own reading (D14,
notes/assumptions/22.md). -/
def Obligations.UnsupportedWidthSilencesTheNoise : Prop :=
  (∀ n : Noise, n.lfsr.toNat ≤ 1 →
    (n.shift .tapNone).lfsr = 0 ∧ (n.shift .tapNone).out = false) ∧
  (∀ (s : State) (k : Nat), s.cfg.tap = .tapNone → s.noise.lfsr = 0 → s.noise.out = false →
    (advance k s).noise.lfsr = 0 ∧ (advance k s).noise.out = false ∧
    contribution s.atten (advance k s).noise.out (advance k s).noise.vol = 0)

/-- R139, R146, R147: from a counter about to expire with the edge flag 0, and a reload value R, n ticks shift the LFSR
on the first tick and then once every 2R ticks; R = 0 counts as 1, the fastest rate. That a counter at 0 expires and that
rising means the flag becomes 1 are the spec's own choices (D4, D18, notes/assumptions/22.md). -/
def Obligations.NoiseShiftsOnceEveryTwoReloads : Prop :=
  ∀ (s : State) (n R : Nat),
    R = (activePeriod s.params s.noise.mode s.tone2.period).toNat →
    s.noise.counter.toNat ≤ 1 → s.noise.edge = false →
    (tick^[n] s).noise.lfsr =
      (lfsrShifted s.cfg.tap s.noise.type)^[(n + 2 * max R 1 - 1) / (2 * max R 1)] s.noise.lfsr

/-! ## Rate converter and sample sequencing (spec/42_rate_and_mix.md) -/

/-- R160, R161, R163: one RateStep; it writes the remainder alone. -/
def Obligations.RateStepConsumesWholeCycles : Prop :=
  ∀ s : State, 1 ≤ s.cfg.sampleRate →
    rateCycles s * s.cfg.sampleRate + (rateStep s).rem = s.rem + s.cfg.clockRate ∧
    (rateStep s).rem < s.cfg.sampleRate ∧
    rateStep s = { s with rem := (rateStep s).rem } ∧
    (s.rem < s.cfg.sampleRate →
      (rateCycles s = s.cfg.clockRate / s.cfg.sampleRate ∨
        rateCycles s = s.cfg.clockRate / s.cfg.sampleRate + 1) ∧
      (s.cfg.sampleRate ∣ s.cfg.clockRate → rateCycles s = s.cfg.clockRate / s.cfg.sampleRate)) ∧
    (s.rem + s.cfg.clockRate < s.cfg.sampleRate → rateCycles s = 0)

/-- R162: from remainder 0, N samples take `floor(N × CLOCK_RATE / SAMPLE_RATE)` chip cycles exactly, and leave the
remainder `(N × CLOCK_RATE) mod SAMPLE_RATE`. -/
def Obligations.RateConversionHasNoDrift : Prop :=
  ∀ (s : State) (N : Nat), s.built = true → 1 ≤ s.cfg.sampleRate → s.rem = 0 → QueueOrdered s →
    ∃ t, exec (.generateSamples N) s = .next t ∧
      t.cycle = s.cycle + N * s.cfg.clockRate / s.cfg.sampleRate ∧
      t.rem = N * s.cfg.clockRate % s.cfg.sampleRate

/-- R164, R192: a sample completes from every ordered queue. It ends at its target cycle, takes the due entries off the
queue and leaves the others, returns the mix of the state it ends in, and writes nothing but the registers R192 names;
with no write due it is the rate step, the advance and the mix. -/
def Obligations.GenerateSampleCompletes : Prop :=
  ∀ (s : State) (T : Nat), s.built = true → QueueOrdered s → T = s.cycle + rateCycles s →
    ∃ t, exec .generateSample s = .next t ∧
      t.cycle = T ∧ t.rem = (rateStep s).rem ∧
      t.queue = s.queue.dropWhile (fun w => decide (w.target ≤ T)) ∧
      t.samples = s.samples ++ [mix t] ∧
      t = { s with
        tone0 := t.tone0, tone1 := t.tone1, tone2 := t.tone2, noise := t.noise, latch := t.latch, presc := t.presc
        queue := t.queue, cycle := t.cycle, rem := t.rem, samples := t.samples } ∧
      ((∀ w ∈ s.queue, T < w.target) →
        ∃ u, u = advance (rateCycles s) (rateStep s) ∧
          t = { u with cycle := T, samples := s.samples ++ [mix u] } ∧ t.latch = s.latch ∧
          ∀ i : Fin 3, (t.tone i).period = (s.tone i).period ∧ (t.tone i).vol = (s.tone i).vol)

/-- R83, R167: a sample is what passing its chip cycles one after another gives, where on each cycle the tick that is
due comes first and the bytes stamped with that cycle come after it, oldest first. -/
def Obligations.SampleIsCycleByCycle : Prop :=
  ∀ s : State, s.built = true → QueueOrdered s →
    exec .generateSample s =
      andThen (cycleByCycle (rateCycles s) (rateStep s)) fun u => .next (u.pushSample (mix u))

/-- R84, R168: a sample whose target cycle is below a write's cycle does not see the write, which stays queued; a sample
whose target cycle is not below it applies the write to the state as it is at the write's cycle. -/
def Obligations.WritesActAtTheirOwnCycle : Prop :=
  (∀ (s t : State) (w : PendingWrite), exec .generateSample s = .next t → s.cycle + rateCycles s < w.target →
    exec .generateSample { s with queue := s.queue ++ [w] } = .next { t with queue := t.queue ++ [w] }) ∧
  (∀ (s u : State) (w : PendingWrite), s.built = true →
    (∀ v ∈ s.queue, v.target ≤ w.target) → w.target ≤ s.cycle + rateCycles s → s.cycle ≤ w.target →
    andThen (drainDue s.queue.length w.target (rateStep s)) (advanceTo w.target) = .next u →
    exec .generateSample { s with queue := s.queue ++ [w] } =
      andThen (applyByte w.byte u) (finishSample (s.cycle + rateCycles s)))

/-- R165: while R73 holds, no gap passed to Advance is negative and a sample does not fault; a state that breaks R73,
with a due write stamped below the current cycle, faults, and nothing is clamped. -/
def Obligations.NegativeGapFaults : Prop :=
  (∀ (s : State) (f : Fault), QueueOrdered s → exec .generateSample s ≠ .fault f) ∧
  (∀ (s : State) (w : PendingWrite) (q : List PendingWrite), s.built = true → s.queue = w :: q →
    w.target < s.cycle → exec .generateSample s = .fault .negativeGap)

/-- R166: bytes with one target are applied one after another with no tick between them, and two bytes written with no
sample between them carry one stamp. -/
def Obligations.EqualStampsApplyBackToBack : Prop :=
  (∀ (s : State) (w v : PendingWrite) (q : List PendingWrite) (T : Nat), s.queue = w :: v :: q →
    w.target = v.target → s.cycle ≤ w.target → w.target ≤ T → s.built = true →
    sampleTo T s =
      andThen (applyByte w.byte { advance (w.target - s.cycle) s with queue := q, cycle := w.target })
        (fun u => andThen (applyByte v.byte u) (sampleTo T))) ∧
  (∀ (s : State) (b c : Byte), s.built = true →
    ∃ t w v, runAll [.write b, .write c] s = .next t ∧ t.queue = s.queue ++ [w, v] ∧
      w.byte = b ∧ v.byte = c ∧ w.target = v.target)

/-! ## Mixer (spec/42_rate_and_mix.md) -/

/-- R172, R173: the mix is the sum of the sounding channels' table entries divided by 2^18; it lies in [0, 32767], so
the clamp changes nothing, and it reads the output bits and the volumes alone. The Q16 numerics are the spec's own choice
(D13, notes/assumptions/16.md). -/
def Obligations.MixSumsTheSoundingChannels : Prop :=
  (∀ s : State,
    (mix s).toNat =
      ((∑ i : Fin 3, if (s.tone i).out then (s.atten[(s.tone i).vol.toNat]).toNat else 0) +
        (if s.noise.out then (s.atten[s.noise.vol.toNat]).toNat else 0)) / 262144 ∧
    0 ≤ (mix s).toInt ∧ (mix s).toInt ≤ 32767 ∧
    (s.atten = ampQ16Default → mixSum s ≤ 8589672448)) ∧
  (∀ s t : State, s.atten = t.atten → (∀ i : Fin 3, (s.tone i).out = (t.tone i).out ∧ (s.tone i).vol = (t.tone i).vol) →
    s.noise.out = t.noise.out → s.noise.vol = t.noise.vol → mix s = mix t)

/-- R175: with the spec's table, a channel at volume 15 adds nothing whatever its output bit. -/
def Obligations.VolumeFifteenIsSilent : Prop :=
  ∀ (s : State) (o : Bool), s.atten = ampQ16Default →
    (∀ i : Fin 3, (s.tone i).vol = 15 → mix (s.setTone i { s.tone i with out := o }) = mix s) ∧
    (s.noise.vol = 15 → mix { s with noise := { s.noise with out := o } } = mix s)

/-- R170, R174: with the spec's table, the fixed-point mix is exactly the ideal real value, truncated and clamped. The
scale 32767 and the truncation are the spec's own choice (D13, notes/assumptions/16.md). -/
def Obligations.MixIsTheIdealRealValue : Prop :=
  ∀ (s : State) (A : Volume → ℝ), s.atten = ampQ16Default →
    (∀ v, A v = if v = 15 then 0 else (10 : ℝ) ^ (-(2 * (v.toNat : ℝ)) / 20)) →
    (mix s).toInt =
      clamp ⌊32767 * ((∑ i : Fin 3, if (s.tone i).out then A (s.tone i).vol else 0) +
        (if s.noise.out then A s.noise.vol else 0)) / 4⌋ (-32768) 32767

/-- R171, R48: the attenuation table is the rounded value of `32767 × 2^16 × 10^(−i/10)` with silence last, and it
decreases strictly. The fixed-point realisation is the spec's own choice (D13, notes/assumptions/16.md). -/
def Obligations.AttenuationTableIsTheRoundedFormula : Prop :=
  (∀ i : Fin 15, ((ampQ16Default[i.val]).toNat : ℤ) =
    ⌊32767 * 2 ^ 16 * (10 : ℝ) ^ (-(i.val : ℝ) / 10) + 1 / 2⌋) ∧
  ampQ16Default[15] = 0 ∧
  (∀ i j : Fin 16, i < j → (ampQ16Default[j.val]).toNat < (ampQ16Default[i.val]).toNat)

/-! ## Host operations (spec/43_host_operations.md) -/

/-- R190, R9, R59: CONSTRUCT with rates of at least 1 builds the block whatever stood there, every register at its reset
value; with a lower rate it is refused. The host interface's two ends stand. The refusal, the origin 0 of the timing
registers and the output and edge bits' reset value are the spec's own choices (D17, D10, D7); a CONSTRUCT of a block that
exists is the model's (notes/assumptions/10.md). -/
def Obligations.ConstructBuildsTheBlock : Prop :=
  (∀ (s : State) (c r w : Int), 1 ≤ c → 1 ≤ r →
    ∃ t, exec (.construct c r w) s = .next t ∧
      (t.cfg.clockRate : Int) = c ∧ (t.cfg.sampleRate : Int) = r ∧
      (t.cfg.tap = .tap15 ↔ w = 15) ∧ (t.cfg.tap = .tap16 ↔ w = 16) ∧
      (t.warn = true ↔ w ≠ 15 ∧ w ≠ 16) ∧
      t = {
        params := s.params, cfg := t.cfg, built := true, atten := s.params.ampQ16, warn := t.warn
        tone0 := { period := 0, counter := 0, out := false, vol := 15 }
        tone1 := { period := 0, counter := 0, out := false, vol := 15 }
        tone2 := { period := 0, counter := 0, out := false, vol := 15 }
        noise := { lfsr := 1, type := .periodic, mode := 0, counter := 0, edge := false, out := false, vol := 15 }
        latch := { ch := 0, vol := false }
        presc := 16, queue := [], cycle := 0, rem := 0, ops := s.ops, samples := s.samples }) ∧
  (∀ (s : State) (c r w : Int), c < 1 ∨ r < 1 → exec (.construct c r w) s = .refused .rateBelowOne)

/-- R191: WRITE stamps the byte with the current cycle plus `WRITE_LATENCY` and queues it; nothing else changes. -/
def Obligations.WriteQueuesTheByte : Prop :=
  ∀ (s : State) (b : Byte), s.built = true →
    exec (.write b) s =
      .next { s with
        queue := s.queue ++ [{ byte := b, latch := b.getLsbD 7, target := s.cycle + s.params.writeLatency }] }

/-- R193: GENERATE_SAMPLES(0) changes nothing, GENERATE_SAMPLES(1) is GENERATE_SAMPLE, and a count splits anywhere. -/
def Obligations.GenerateSamplesRepeats : Prop :=
  ∀ s : State, s.built = true →
    exec (.generateSamples 0) s = .next s ∧
    exec (.generateSamples 1) s = exec .generateSample s ∧
    (∀ a b : Nat, exec (.generateSamples (a + b)) s =
      andThen (exec (.generateSamples a) s) (exec (.generateSamples b)))

/-- R194, R58: RESET puts every register at its reset value, and the timing registers where `RESET_CLEARS_TIMING` says
so; nothing else changes, and a second RESET changes nothing. The output and edge bits' value and the parameter
`RESET_CLEARS_TIMING` are the spec's own choices (D7, D9, notes/assumptions/15.md and 19.md). -/
def Obligations.ResetRestoresPowerOnValues : Prop :=
  ∀ s : State, s.built = true →
    ∃ t, exec .reset s = .next t ∧ exec .reset t = .next t ∧
      t = { s with
        tone0 := { period := 0, counter := 0, out := false, vol := 15 }
        tone1 := { period := 0, counter := 0, out := false, vol := 15 }
        tone2 := { period := 0, counter := 0, out := false, vol := 15 }
        noise := { lfsr := 1, type := .periodic, mode := 0, counter := 0, edge := false, out := false, vol := 15 }
        latch := { ch := 0, vol := false }
        presc := 16, queue := []
        cycle := if s.params.resetClearsTiming = true then 0 else s.cycle
        rem := if s.params.resetClearsTiming = true then 0 else s.rem }

/-- R231: RESET keeps the configuration, the table and the warning, and the timing registers only without
`RESET_CLEARS_TIMING`, and discards everything else; with it, RESET of a block that CONSTRUCT built, whatever ran since,
leaves the state after that CONSTRUCT, up to the host interface's two ends. -/
def Obligations.ResetEqualsFreshConstruct : Prop :=
  (∀ s : State, s.built = true →
    ∃ t, exec .reset s = .next t ∧
      t = { State.reset with
        params := s.params, cfg := s.cfg, atten := s.atten, warn := s.warn, cycle := t.cycle, rem := t.rem
        ops := s.ops, samples := s.samples } ∧
      (s.params.resetClearsTiming = false → t.cycle = s.cycle ∧ t.rem = s.rem) ∧
      (s.params.resetClearsTiming = true → t.cycle = 0 ∧ t.rem = 0)) ∧
  (∀ (s0 s1 s : State) (c r w : Int), exec (.construct c r w) s0 = .next s1 →
    s.params = s1.params → s.cfg = s1.cfg → s.atten = s1.atten → s.warn = s1.warn → s.built = true →
    s1.params.resetClearsTiming = true →
    exec .reset s = .next { s1 with ops := s.ops, samples := s.samples })

/-- R75, R234: writes with no sample before the RESET have no effect. -/
def Obligations.ResetDiscardsPendingWrites : Prop :=
  ∀ (s : State) (bytes : List Byte), s.built = true →
    runAll (bytes.map .write ++ [.reset]) s = exec .reset s

/-- R232: with the spec's table, every sample after a RESET with no write since is 0, however many are taken. -/
def Obligations.SilenceAfterReset : Prop :=
  ∀ (s : State) (n : Nat), s.built = true → s.atten = ampQ16Default →
    ∃ t, runAll [.reset, .generateSamples n] s = .next t ∧ t.samples = s.samples ++ List.replicate n 0

/-- R53: CONSTRUCT sets the warning exactly under `TAP_NONE`, and no other instruction writes it, nor (R6, R48) the
configuration or the attenuation table; none at all writes the parameters. The warning as a level is the spec's own
choice (D23, notes/assumptions/22.md). -/
def Obligations.OnlyConstructWritesTheConfiguration : Prop :=
  ∀ (i : Instr) (s t : State), exec i s = .next t →
    t.params = s.params ∧ t.built = true ∧
    ((∃ c r w, i = .construct c r w) → (t.warn = true ↔ t.cfg.tap = .tapNone)) ∧
    ((¬ ∃ c r w, i = .construct c r w) → t.warn = s.warn ∧ t.cfg = s.cfg ∧ t.atten = s.atten)

/-- R50: between resets the cycle counter moves only in samples, and forward. What a reset does to it is a choice: RESET
clears it as `RESET_CLEARS_TIMING` says (the spec's own D9, notes/assumptions/15.md), CONSTRUCT sets it to 0 (the spec's
own D10, R59), and that a CONSTRUCT of a block that exists does so is the model's (notes/assumptions/10.md). -/
def Obligations.CycleCounterMovesForwardBetweenResets : Prop :=
  ∀ (i : Instr) (s t : State), exec i s = .next t →
    (i = .generateSample ∨ (∃ n, i = .generateSamples n) → s.cycle ≤ t.cycle) ∧
    (i = .reset → t.cycle = if s.params.resetClearsTiming = true then 0 else s.cycle) ∧
    ((∃ c r w, i = .construct c r w) → t.cycle = 0) ∧
    (i.isCommand = true ∨ (∃ b, i = .write b) → t.cycle = s.cycle)

/-- R72: the queue is strictly FIFO. WRITE appends, samples remove from the head, RESET and CONSTRUCT clear, and a
command form leaves it alone. -/
def Obligations.QueueIsStrictlyFifo : Prop :=
  ∀ (i : Instr) (s t : State), exec i s = .next t →
    ((∃ b, i = .write b) → ∃ w, t.queue = s.queue ++ [w]) ∧
    (i = .generateSample ∨ (∃ n, i = .generateSamples n) → ∃ applied, s.queue = applied ++ t.queue) ∧
    (i = .reset ∨ (∃ c r w, i = .construct c r w) → t.queue = []) ∧
    (i.isCommand = true → t.queue = s.queue)

/-- R60, R33: what leaves the block. A sample operation returns as many samples as it was asked for, and no other
instruction returns anything. -/
def Obligations.OnlySampleOperationsReturnSamples : Prop :=
  ∀ (i : Instr) (s t : State), exec i s = .next t →
    t.ops = s.ops ∧
    (i = .generateSample → ∃ v, t.samples = s.samples ++ [v]) ∧
    (∀ n, i = .generateSamples n → ∃ l, l.length = n ∧ t.samples = s.samples ++ l) ∧
    (i ≠ .generateSample → (∀ n, i ≠ .generateSamples n) → t.samples = s.samples)

/-! ## Totality, faults and the invariant (R61, R196, R210) -/

/-- R196: every operation after CONSTRUCT is total, and the only refusals are a CONSTRUCT with a rate below 1 and any
other operation before CONSTRUCT. -/
def Obligations.OperationsAreTotalAfterConstruct : Prop :=
  ∀ (s : State) (op : HostOp), Inv s →
    ((¬ ∃ c r w, op = .construct c r w) →
      (s.built = true → ∃ t, exec op.toInstr s = .next t) ∧
      (s.built = false → exec op.toInstr s = .refused .beforeConstruct)) ∧
    (∀ c r w, op = .construct c r w →
      (1 ≤ c → 1 ≤ r → ∃ t, exec op.toInstr s = .next t) ∧
      (c < 1 ∨ r < 1 → exec op.toInstr s = .refused .rateBelowOne))

/-- The model's choice (notes/assumptions/9.md): on a block that does not exist, every instruction but CONSTRUCT is
refused, the command forms with the operations. -/
def Obligations.NothingRunsBeforeConstruct : Prop :=
  ∀ (s : State) (i : Instr), s.built = false → (¬ ∃ c r w, i = .construct c r w) →
    exec i s = .refused .beforeConstruct

/-- R61: a step from a state that meets the invariant ends in one that meets it. -/
def Obligations.StepKeepsTheInvariant : Prop :=
  ∀ s t : State, Inv s → step s = .next t → Inv t

/-- The invariant holds right after reset, over the configuration the model chose for it (notes/assumptions/2.md). -/
def Obligations.ResetMeetsTheInvariant : Prop := Inv State.reset

/-- R210, R216, R165: from a state that meets the invariant no step faults: no contract violation and no negative gap is
ever reached. -/
def Obligations.StepNeverFaults : Prop :=
  ∀ (s : State) (f : Fault), Inv s → step s ≠ .fault f

/-- R58: the registers of `State.reset` at the spec's values. The configuration below it is the model's choice and no
clause is about it; the output and edge bits' value 0 is the spec's own choice (D7, notes/assumptions/19.md), and so
are the defaults of the parameters (D12, D9). -/
def Obligations.ResetStateHasTheSpecsValues : Prop :=
  (∀ i : Fin 3, State.reset.tone i = { period := 0, counter := 0, out := false, vol := 15 }) ∧
  State.reset.noise =
    { lfsr := 1, type := .periodic, mode := 0, counter := 0, edge := false, out := false, vol := 15 } ∧
  State.reset.latch = { ch := 0, vol := false } ∧ State.reset.presc = 16 ∧ State.reset.queue = [] ∧
  State.reset.cycle = 0 ∧ State.reset.rem = 0 ∧ State.reset.params.noiseFixed0 = 16 ∧
  State.reset.params.noiseFixed1 = 32 ∧ State.reset.params.noiseFixed2 = 64 ∧
  State.reset.params.resetClearsTiming = true ∧ exec .reset State.reset = .next State.reset
end

