-- ==== Sys2Proof/Laws/State.lean ====
section
/-! SUPPORT. One lemma per field per update of the state, each true by rfl, so that no proof unfolds a record update. -/

namespace Sys2Proof.Machine

variable (s : State)

/-! ## setNoise -/

@[simp] theorem State.setNoise_params (n : Noise) : (s.setNoise n).params = s.params := rfl
@[simp] theorem State.setNoise_cfg (n : Noise) : (s.setNoise n).cfg = s.cfg := rfl
@[simp] theorem State.setNoise_built (n : Noise) : (s.setNoise n).built = s.built := rfl
@[simp] theorem State.setNoise_atten (n : Noise) : (s.setNoise n).atten = s.atten := rfl
@[simp] theorem State.setNoise_warn (n : Noise) : (s.setNoise n).warn = s.warn := rfl
@[simp] theorem State.setNoise_tone0 (n : Noise) : (s.setNoise n).tone0 = s.tone0 := rfl
@[simp] theorem State.setNoise_tone1 (n : Noise) : (s.setNoise n).tone1 = s.tone1 := rfl
@[simp] theorem State.setNoise_tone2 (n : Noise) : (s.setNoise n).tone2 = s.tone2 := rfl
@[simp] theorem State.setNoise_noise (n : Noise) : (s.setNoise n).noise = n := rfl
@[simp] theorem State.setNoise_latch (n : Noise) : (s.setNoise n).latch = s.latch := rfl
@[simp] theorem State.setNoise_presc (n : Noise) : (s.setNoise n).presc = s.presc := rfl
@[simp] theorem State.setNoise_queue (n : Noise) : (s.setNoise n).queue = s.queue := rfl
@[simp] theorem State.setNoise_cycle (n : Noise) : (s.setNoise n).cycle = s.cycle := rfl
@[simp] theorem State.setNoise_rem (n : Noise) : (s.setNoise n).rem = s.rem := rfl
@[simp] theorem State.setNoise_ops (n : Noise) : (s.setNoise n).ops = s.ops := rfl
@[simp] theorem State.setNoise_samples (n : Noise) : (s.setNoise n).samples = s.samples := rfl

/-! ## setLatch -/

@[simp] theorem State.setLatch_params (ch : Channel) (vol : Bool) : (s.setLatch ch vol).params = s.params := rfl
@[simp] theorem State.setLatch_cfg (ch : Channel) (vol : Bool) : (s.setLatch ch vol).cfg = s.cfg := rfl
@[simp] theorem State.setLatch_built (ch : Channel) (vol : Bool) : (s.setLatch ch vol).built = s.built := rfl
@[simp] theorem State.setLatch_atten (ch : Channel) (vol : Bool) : (s.setLatch ch vol).atten = s.atten := rfl
@[simp] theorem State.setLatch_warn (ch : Channel) (vol : Bool) : (s.setLatch ch vol).warn = s.warn := rfl
@[simp] theorem State.setLatch_tone0 (ch : Channel) (vol : Bool) : (s.setLatch ch vol).tone0 = s.tone0 := rfl
@[simp] theorem State.setLatch_tone1 (ch : Channel) (vol : Bool) : (s.setLatch ch vol).tone1 = s.tone1 := rfl
@[simp] theorem State.setLatch_tone2 (ch : Channel) (vol : Bool) : (s.setLatch ch vol).tone2 = s.tone2 := rfl
@[simp] theorem State.setLatch_noise (ch : Channel) (vol : Bool) : (s.setLatch ch vol).noise = s.noise := rfl
@[simp] theorem State.setLatch_latch (ch : Channel) (vol : Bool) : (s.setLatch ch vol).latch = { ch := ch, vol := vol } := rfl
@[simp] theorem State.setLatch_presc (ch : Channel) (vol : Bool) : (s.setLatch ch vol).presc = s.presc := rfl
@[simp] theorem State.setLatch_queue (ch : Channel) (vol : Bool) : (s.setLatch ch vol).queue = s.queue := rfl
@[simp] theorem State.setLatch_cycle (ch : Channel) (vol : Bool) : (s.setLatch ch vol).cycle = s.cycle := rfl
@[simp] theorem State.setLatch_rem (ch : Channel) (vol : Bool) : (s.setLatch ch vol).rem = s.rem := rfl
@[simp] theorem State.setLatch_ops (ch : Channel) (vol : Bool) : (s.setLatch ch vol).ops = s.ops := rfl
@[simp] theorem State.setLatch_samples (ch : Channel) (vol : Bool) : (s.setLatch ch vol).samples = s.samples := rfl

/-! ## setPresc -/

@[simp] theorem State.setPresc_params (p : Nat) : (s.setPresc p).params = s.params := rfl
@[simp] theorem State.setPresc_cfg (p : Nat) : (s.setPresc p).cfg = s.cfg := rfl
@[simp] theorem State.setPresc_built (p : Nat) : (s.setPresc p).built = s.built := rfl
@[simp] theorem State.setPresc_atten (p : Nat) : (s.setPresc p).atten = s.atten := rfl
@[simp] theorem State.setPresc_warn (p : Nat) : (s.setPresc p).warn = s.warn := rfl
@[simp] theorem State.setPresc_tone0 (p : Nat) : (s.setPresc p).tone0 = s.tone0 := rfl
@[simp] theorem State.setPresc_tone1 (p : Nat) : (s.setPresc p).tone1 = s.tone1 := rfl
@[simp] theorem State.setPresc_tone2 (p : Nat) : (s.setPresc p).tone2 = s.tone2 := rfl
@[simp] theorem State.setPresc_noise (p : Nat) : (s.setPresc p).noise = s.noise := rfl
@[simp] theorem State.setPresc_latch (p : Nat) : (s.setPresc p).latch = s.latch := rfl
@[simp] theorem State.setPresc_presc (p : Nat) : (s.setPresc p).presc = p := rfl
@[simp] theorem State.setPresc_queue (p : Nat) : (s.setPresc p).queue = s.queue := rfl
@[simp] theorem State.setPresc_cycle (p : Nat) : (s.setPresc p).cycle = s.cycle := rfl
@[simp] theorem State.setPresc_rem (p : Nat) : (s.setPresc p).rem = s.rem := rfl
@[simp] theorem State.setPresc_ops (p : Nat) : (s.setPresc p).ops = s.ops := rfl
@[simp] theorem State.setPresc_samples (p : Nat) : (s.setPresc p).samples = s.samples := rfl

/-! ## setCycle -/

@[simp] theorem State.setCycle_params (c : Nat) : (s.setCycle c).params = s.params := rfl
@[simp] theorem State.setCycle_cfg (c : Nat) : (s.setCycle c).cfg = s.cfg := rfl
@[simp] theorem State.setCycle_built (c : Nat) : (s.setCycle c).built = s.built := rfl
@[simp] theorem State.setCycle_atten (c : Nat) : (s.setCycle c).atten = s.atten := rfl
@[simp] theorem State.setCycle_warn (c : Nat) : (s.setCycle c).warn = s.warn := rfl
@[simp] theorem State.setCycle_tone0 (c : Nat) : (s.setCycle c).tone0 = s.tone0 := rfl
@[simp] theorem State.setCycle_tone1 (c : Nat) : (s.setCycle c).tone1 = s.tone1 := rfl
@[simp] theorem State.setCycle_tone2 (c : Nat) : (s.setCycle c).tone2 = s.tone2 := rfl
@[simp] theorem State.setCycle_noise (c : Nat) : (s.setCycle c).noise = s.noise := rfl
@[simp] theorem State.setCycle_latch (c : Nat) : (s.setCycle c).latch = s.latch := rfl
@[simp] theorem State.setCycle_presc (c : Nat) : (s.setCycle c).presc = s.presc := rfl
@[simp] theorem State.setCycle_queue (c : Nat) : (s.setCycle c).queue = s.queue := rfl
@[simp] theorem State.setCycle_cycle (c : Nat) : (s.setCycle c).cycle = c := rfl
@[simp] theorem State.setCycle_rem (c : Nat) : (s.setCycle c).rem = s.rem := rfl
@[simp] theorem State.setCycle_ops (c : Nat) : (s.setCycle c).ops = s.ops := rfl
@[simp] theorem State.setCycle_samples (c : Nat) : (s.setCycle c).samples = s.samples := rfl

/-! ## setRem -/

@[simp] theorem State.setRem_params (r : Nat) : (s.setRem r).params = s.params := rfl
@[simp] theorem State.setRem_cfg (r : Nat) : (s.setRem r).cfg = s.cfg := rfl
@[simp] theorem State.setRem_built (r : Nat) : (s.setRem r).built = s.built := rfl
@[simp] theorem State.setRem_atten (r : Nat) : (s.setRem r).atten = s.atten := rfl
@[simp] theorem State.setRem_warn (r : Nat) : (s.setRem r).warn = s.warn := rfl
@[simp] theorem State.setRem_tone0 (r : Nat) : (s.setRem r).tone0 = s.tone0 := rfl
@[simp] theorem State.setRem_tone1 (r : Nat) : (s.setRem r).tone1 = s.tone1 := rfl
@[simp] theorem State.setRem_tone2 (r : Nat) : (s.setRem r).tone2 = s.tone2 := rfl
@[simp] theorem State.setRem_noise (r : Nat) : (s.setRem r).noise = s.noise := rfl
@[simp] theorem State.setRem_latch (r : Nat) : (s.setRem r).latch = s.latch := rfl
@[simp] theorem State.setRem_presc (r : Nat) : (s.setRem r).presc = s.presc := rfl
@[simp] theorem State.setRem_queue (r : Nat) : (s.setRem r).queue = s.queue := rfl
@[simp] theorem State.setRem_cycle (r : Nat) : (s.setRem r).cycle = s.cycle := rfl
@[simp] theorem State.setRem_rem (r : Nat) : (s.setRem r).rem = r := rfl
@[simp] theorem State.setRem_ops (r : Nat) : (s.setRem r).ops = s.ops := rfl
@[simp] theorem State.setRem_samples (r : Nat) : (s.setRem r).samples = s.samples := rfl

/-! ## setQueue -/

@[simp] theorem State.setQueue_params (q : List PendingWrite) : (s.setQueue q).params = s.params := rfl
@[simp] theorem State.setQueue_cfg (q : List PendingWrite) : (s.setQueue q).cfg = s.cfg := rfl
@[simp] theorem State.setQueue_built (q : List PendingWrite) : (s.setQueue q).built = s.built := rfl
@[simp] theorem State.setQueue_atten (q : List PendingWrite) : (s.setQueue q).atten = s.atten := rfl
@[simp] theorem State.setQueue_warn (q : List PendingWrite) : (s.setQueue q).warn = s.warn := rfl
@[simp] theorem State.setQueue_tone0 (q : List PendingWrite) : (s.setQueue q).tone0 = s.tone0 := rfl
@[simp] theorem State.setQueue_tone1 (q : List PendingWrite) : (s.setQueue q).tone1 = s.tone1 := rfl
@[simp] theorem State.setQueue_tone2 (q : List PendingWrite) : (s.setQueue q).tone2 = s.tone2 := rfl
@[simp] theorem State.setQueue_noise (q : List PendingWrite) : (s.setQueue q).noise = s.noise := rfl
@[simp] theorem State.setQueue_latch (q : List PendingWrite) : (s.setQueue q).latch = s.latch := rfl
@[simp] theorem State.setQueue_presc (q : List PendingWrite) : (s.setQueue q).presc = s.presc := rfl
@[simp] theorem State.setQueue_queue (q : List PendingWrite) : (s.setQueue q).queue = q := rfl
@[simp] theorem State.setQueue_cycle (q : List PendingWrite) : (s.setQueue q).cycle = s.cycle := rfl
@[simp] theorem State.setQueue_rem (q : List PendingWrite) : (s.setQueue q).rem = s.rem := rfl
@[simp] theorem State.setQueue_ops (q : List PendingWrite) : (s.setQueue q).ops = s.ops := rfl
@[simp] theorem State.setQueue_samples (q : List PendingWrite) : (s.setQueue q).samples = s.samples := rfl

/-! ## setOps -/

@[simp] theorem State.setOps_params (o : List HostOp) : (s.setOps o).params = s.params := rfl
@[simp] theorem State.setOps_cfg (o : List HostOp) : (s.setOps o).cfg = s.cfg := rfl
@[simp] theorem State.setOps_built (o : List HostOp) : (s.setOps o).built = s.built := rfl
@[simp] theorem State.setOps_atten (o : List HostOp) : (s.setOps o).atten = s.atten := rfl
@[simp] theorem State.setOps_warn (o : List HostOp) : (s.setOps o).warn = s.warn := rfl
@[simp] theorem State.setOps_tone0 (o : List HostOp) : (s.setOps o).tone0 = s.tone0 := rfl
@[simp] theorem State.setOps_tone1 (o : List HostOp) : (s.setOps o).tone1 = s.tone1 := rfl
@[simp] theorem State.setOps_tone2 (o : List HostOp) : (s.setOps o).tone2 = s.tone2 := rfl
@[simp] theorem State.setOps_noise (o : List HostOp) : (s.setOps o).noise = s.noise := rfl
@[simp] theorem State.setOps_latch (o : List HostOp) : (s.setOps o).latch = s.latch := rfl
@[simp] theorem State.setOps_presc (o : List HostOp) : (s.setOps o).presc = s.presc := rfl
@[simp] theorem State.setOps_queue (o : List HostOp) : (s.setOps o).queue = s.queue := rfl
@[simp] theorem State.setOps_cycle (o : List HostOp) : (s.setOps o).cycle = s.cycle := rfl
@[simp] theorem State.setOps_rem (o : List HostOp) : (s.setOps o).rem = s.rem := rfl
@[simp] theorem State.setOps_ops (o : List HostOp) : (s.setOps o).ops = o := rfl
@[simp] theorem State.setOps_samples (o : List HostOp) : (s.setOps o).samples = s.samples := rfl

/-! ## pushSample -/

@[simp] theorem State.pushSample_params (v : Sample) : (s.pushSample v).params = s.params := rfl
@[simp] theorem State.pushSample_cfg (v : Sample) : (s.pushSample v).cfg = s.cfg := rfl
@[simp] theorem State.pushSample_built (v : Sample) : (s.pushSample v).built = s.built := rfl
@[simp] theorem State.pushSample_atten (v : Sample) : (s.pushSample v).atten = s.atten := rfl
@[simp] theorem State.pushSample_warn (v : Sample) : (s.pushSample v).warn = s.warn := rfl
@[simp] theorem State.pushSample_tone0 (v : Sample) : (s.pushSample v).tone0 = s.tone0 := rfl
@[simp] theorem State.pushSample_tone1 (v : Sample) : (s.pushSample v).tone1 = s.tone1 := rfl
@[simp] theorem State.pushSample_tone2 (v : Sample) : (s.pushSample v).tone2 = s.tone2 := rfl
@[simp] theorem State.pushSample_noise (v : Sample) : (s.pushSample v).noise = s.noise := rfl
@[simp] theorem State.pushSample_latch (v : Sample) : (s.pushSample v).latch = s.latch := rfl
@[simp] theorem State.pushSample_presc (v : Sample) : (s.pushSample v).presc = s.presc := rfl
@[simp] theorem State.pushSample_queue (v : Sample) : (s.pushSample v).queue = s.queue := rfl
@[simp] theorem State.pushSample_cycle (v : Sample) : (s.pushSample v).cycle = s.cycle := rfl
@[simp] theorem State.pushSample_rem (v : Sample) : (s.pushSample v).rem = s.rem := rfl
@[simp] theorem State.pushSample_ops (v : Sample) : (s.pushSample v).ops = s.ops := rfl
@[simp] theorem State.pushSample_samples (v : Sample) : (s.pushSample v).samples = s.samples ++ [v] := rfl

/-! ## configure -/

@[simp] theorem State.configure_params (k : RunConfig) : (s.configure k).params = s.params := rfl
@[simp] theorem State.configure_cfg (k : RunConfig) : (s.configure k).cfg = k := rfl
@[simp] theorem State.configure_built (k : RunConfig) : (s.configure k).built = true := rfl
@[simp] theorem State.configure_atten (k : RunConfig) : (s.configure k).atten = s.params.ampQ16 := rfl
@[simp] theorem State.configure_warn (k : RunConfig) : (s.configure k).warn = configWarning k.tap := rfl
@[simp] theorem State.configure_tone0 (k : RunConfig) : (s.configure k).tone0 = s.tone0 := rfl
@[simp] theorem State.configure_tone1 (k : RunConfig) : (s.configure k).tone1 = s.tone1 := rfl
@[simp] theorem State.configure_tone2 (k : RunConfig) : (s.configure k).tone2 = s.tone2 := rfl
@[simp] theorem State.configure_noise (k : RunConfig) : (s.configure k).noise = s.noise := rfl
@[simp] theorem State.configure_latch (k : RunConfig) : (s.configure k).latch = s.latch := rfl
@[simp] theorem State.configure_presc (k : RunConfig) : (s.configure k).presc = s.presc := rfl
@[simp] theorem State.configure_queue (k : RunConfig) : (s.configure k).queue = s.queue := rfl
@[simp] theorem State.configure_cycle (k : RunConfig) : (s.configure k).cycle = s.cycle := rfl
@[simp] theorem State.configure_rem (k : RunConfig) : (s.configure k).rem = s.rem := rfl
@[simp] theorem State.configure_ops (k : RunConfig) : (s.configure k).ops = s.ops := rfl
@[simp] theorem State.configure_samples (k : RunConfig) : (s.configure k).samples = s.samples := rfl

/-! ## setTone -/

@[simp] theorem State.setTone_params (i : Fin 3) (t : Tone) : (s.setTone i t).params = s.params := by
  fin_cases i <;> rfl
@[simp] theorem State.setTone_cfg (i : Fin 3) (t : Tone) : (s.setTone i t).cfg = s.cfg := by
  fin_cases i <;> rfl
@[simp] theorem State.setTone_built (i : Fin 3) (t : Tone) : (s.setTone i t).built = s.built := by
  fin_cases i <;> rfl
@[simp] theorem State.setTone_atten (i : Fin 3) (t : Tone) : (s.setTone i t).atten = s.atten := by
  fin_cases i <;> rfl
@[simp] theorem State.setTone_warn (i : Fin 3) (t : Tone) : (s.setTone i t).warn = s.warn := by
  fin_cases i <;> rfl
@[simp] theorem State.setTone_noise (i : Fin 3) (t : Tone) : (s.setTone i t).noise = s.noise := by
  fin_cases i <;> rfl
@[simp] theorem State.setTone_latch (i : Fin 3) (t : Tone) : (s.setTone i t).latch = s.latch := by
  fin_cases i <;> rfl
@[simp] theorem State.setTone_presc (i : Fin 3) (t : Tone) : (s.setTone i t).presc = s.presc := by
  fin_cases i <;> rfl
@[simp] theorem State.setTone_queue (i : Fin 3) (t : Tone) : (s.setTone i t).queue = s.queue := by
  fin_cases i <;> rfl
@[simp] theorem State.setTone_cycle (i : Fin 3) (t : Tone) : (s.setTone i t).cycle = s.cycle := by
  fin_cases i <;> rfl
@[simp] theorem State.setTone_rem (i : Fin 3) (t : Tone) : (s.setTone i t).rem = s.rem := by
  fin_cases i <;> rfl
@[simp] theorem State.setTone_ops (i : Fin 3) (t : Tone) : (s.setTone i t).ops = s.ops := by
  fin_cases i <;> rfl
@[simp] theorem State.setTone_samples (i : Fin 3) (t : Tone) : (s.setTone i t).samples = s.samples := by
  fin_cases i <;> rfl

theorem State.setTone_zero (t : Tone) : s.setTone 0 t = { s with tone0 := t } := rfl
theorem State.setTone_one (t : Tone) : s.setTone 1 t = { s with tone1 := t } := rfl
theorem State.setTone_two (t : Tone) : s.setTone 2 t = { s with tone2 := t } := rfl

@[simp] theorem State.setTone_zero_tone0 (t : Tone) : (s.setTone 0 t).tone0 = t := rfl
@[simp] theorem State.setTone_zero_tone1 (t : Tone) : (s.setTone 0 t).tone1 = s.tone1 := rfl
@[simp] theorem State.setTone_zero_tone2 (t : Tone) : (s.setTone 0 t).tone2 = s.tone2 := rfl
@[simp] theorem State.setTone_one_tone0 (t : Tone) : (s.setTone 1 t).tone0 = s.tone0 := rfl
@[simp] theorem State.setTone_one_tone1 (t : Tone) : (s.setTone 1 t).tone1 = t := rfl
@[simp] theorem State.setTone_one_tone2 (t : Tone) : (s.setTone 1 t).tone2 = s.tone2 := rfl
@[simp] theorem State.setTone_two_tone0 (t : Tone) : (s.setTone 2 t).tone0 = s.tone0 := rfl
@[simp] theorem State.setTone_two_tone1 (t : Tone) : (s.setTone 2 t).tone1 = s.tone1 := rfl
@[simp] theorem State.setTone_two_tone2 (t : Tone) : (s.setTone 2 t).tone2 = t := rfl

/-! ## Reading a tone channel by its number -/

@[simp] theorem State.tone_zero : s.tone 0 = s.tone0 := rfl
@[simp] theorem State.tone_one : s.tone 1 = s.tone1 := rfl
@[simp] theorem State.tone_two : s.tone 2 = s.tone2 := rfl

/-- Reading a tone channel after writing one: the written value, or what stood there before. -/
theorem State.tone_setTone (i j : Fin 3) (t : Tone) : (s.setTone i t).tone j = if j = i then t else s.tone j := by
  fin_cases i <;> fin_cases j <;> rfl

@[simp] theorem State.tone_setTone_self (i : Fin 3) (t : Tone) : (s.setTone i t).tone i = t := by
  simp [State.tone_setTone]

theorem State.tone_setTone_ne {i j : Fin 3} (h : j ≠ i) (t : Tone) : (s.setTone i t).tone j = s.tone j := by
  simp [State.tone_setTone, h]

/-- Only a tone write changes what `tone i` reads. -/
@[simp] theorem State.tone_setNoise (n : Noise) (i : Fin 3) : (s.setNoise n).tone i = s.tone i := by fin_cases i <;> rfl
@[simp] theorem State.tone_setLatch (ch : Channel) (vol : Bool) (i : Fin 3) : (s.setLatch ch vol).tone i = s.tone i := by
  fin_cases i <;> rfl
@[simp] theorem State.tone_setPresc (p : Nat) (i : Fin 3) : (s.setPresc p).tone i = s.tone i := by fin_cases i <;> rfl
@[simp] theorem State.tone_setCycle (c : Nat) (i : Fin 3) : (s.setCycle c).tone i = s.tone i := by fin_cases i <;> rfl
@[simp] theorem State.tone_setRem (r : Nat) (i : Fin 3) : (s.setRem r).tone i = s.tone i := by fin_cases i <;> rfl
@[simp] theorem State.tone_setQueue (q : List PendingWrite) (i : Fin 3) : (s.setQueue q).tone i = s.tone i := by
  fin_cases i <;> rfl
@[simp] theorem State.tone_setOps (o : List HostOp) (i : Fin 3) : (s.setOps o).tone i = s.tone i := by fin_cases i <;> rfl
@[simp] theorem State.tone_pushSample (v : Sample) (i : Fin 3) : (s.pushSample v).tone i = s.tone i := by
  fin_cases i <;> rfl

end Sys2Proof.Machine
end

