-- ==== Sys2Proof/Laws/Ops.lean ====
section
/-! SUPPORT. One lemma for each shared operation that says what it can do; the provers cite it instead of unfolding the
operation. -/

namespace Sys2Proof.Machine

/-! ## Sequencing and refusal -/

@[simp] theorem andThen_next (s : State) (f : State → Out) : andThen (.next s) f = f s := rfl
@[simp] theorem andThen_fault (r : Fault) (f : State → Out) : andThen (.fault r) f = .fault r := rfl
@[simp] theorem andThen_refused (r : Refusal) (f : State → Out) : andThen (.refused r) f = .refused r := rfl

/-- A sequence answers next exactly when its two parts do, one after the other. -/
theorem andThen_eq_next {o : Out} {f : State → Out} {t : State} :
    andThen o f = .next t ↔ ∃ u, o = .next u ∧ f u = .next t := by
  cases o <;> simp [andThen]

theorem andThen_assoc (o : Out) (f g : State → Out) :
    andThen (andThen o f) g = andThen o fun s => andThen (f s) g := by
  cases o <;> rfl

/-- An operation of the block answers next exactly when the block exists and the operation's own effect does. -/
theorem whenBuilt_eq_next {s t : State} {o : Out} : whenBuilt s o = .next t ↔ s.built = true ∧ o = .next t := by
  unfold whenBuilt
  split <;> simp_all

theorem whenBuilt_of_built {s : State} (h : s.built = true) (o : Out) : whenBuilt s o = o := by
  simp [whenBuilt, h]

theorem whenBuilt_of_unbuilt {s : State} (h : s.built = false) (o : Out) :
    whenBuilt s o = .refused .beforeConstruct := by
  simp [whenBuilt, h]

/-! ## Operand forms -/

@[simp] theorem toneOfChannel_channelOfTone (i : Fin 3) : toneOfChannel (channelOfTone i) = some i := by
  fin_cases i <;> rfl

/-- A channel number names a tone channel unless it is the noise channel's. -/
theorem toneOfChannel_eq_none (ch : Channel) : toneOfChannel ch = none ↔ ch = 3#2 := by
  revert ch; decide

theorem toneOfChannel_eq_some (ch : Channel) (i : Fin 3) : toneOfChannel ch = some i ↔ ch = channelOfTone i := by
  revert ch i; decide

/-- R122: `period = 16 × hi6 + lo4`, here with the low nibble replaced. -/
theorem withPeriodLow_toNat (p : Count) (d4 : BitVec 4) :
    (withPeriodLow p d4).toNat = 16 * (p.toNat / 16) + d4.toNat := by
  have hp := p.isLt
  have hd := d4.isLt
  simp only [withPeriodLow, BitVec.toNat_append, BitVec.extractLsb'_toNat, Nat.shiftRight_eq_div_pow]
  rw [← Nat.shiftLeft_add_eq_or_of_lt hd, Nat.shiftLeft_eq]
  omega

/-- R122, with the high bits replaced. -/
theorem withPeriodHigh_toNat (p : Count) (d6 : BitVec 6) :
    (withPeriodHigh p d6).toNat = 16 * d6.toNat + p.toNat % 16 := by
  have hl : p.toNat % 2 ^ 4 < 2 ^ 4 := Nat.mod_lt _ (by decide)
  simp only [withPeriodHigh, BitVec.toNat_append, BitVec.extractLsb'_toNat, Nat.shiftRight_zero]
  rw [← Nat.shiftLeft_add_eq_or_of_lt hl, Nat.shiftLeft_eq]
  omega

/-- When a data form of a tone channel answers next: its register is the latched one. -/
theorem withLatchedTone_eq_next {vol : Bool} {s t : State} {f : Fin 3 → State} :
    withLatchedTone vol s f = .next t ↔
      ∃ i, s.latch.ch = channelOfTone i ∧ s.latch.vol = vol ∧ f i = t := by
  unfold withLatchedTone
  cases h : toneOfChannel s.latch.ch with
  | none =>
    rw [toneOfChannel_eq_none] at h
    simp only [reduceCtorEq, false_iff, not_exists, not_and]
    intro i hi
    exact absurd ((toneOfChannel_eq_some _ i).2 hi) (by simp [(toneOfChannel_eq_none _).2 h])
  | some j =>
    by_cases hv : s.latch.vol = vol
    · simp only [hv, if_true, Host.Outcome.next.injEq, true_and]
      refine ⟨fun e => ⟨j, (toneOfChannel_eq_some _ j).1 h, e⟩, fun ⟨i, hi, e⟩ => ?_⟩
      rw [(toneOfChannel_eq_some _ i).2 hi, Option.some.injEq] at h
      exact h ▸ e
    · simp [hv]

/-- When a data form of the noise channel answers next. -/
theorem withLatchedNoise_eq_next {vol : Bool} {s t u : State} :
    withLatchedNoise vol s u = .next t ↔ s.latch.ch = 3#2 ∧ s.latch.vol = vol ∧ u = t := by
  unfold withLatchedNoise
  split <;> simp_all

/-! ## The queue -/

/-- Dequeue answers an entry exactly when the queue has a head (R74). -/
theorem dequeue_eq_ok {s t : State} {w : PendingWrite} :
    s.dequeue = .ok (w, t) ↔ ∃ q, s.queue = w :: q ∧ t = s.setQueue q := by
  unfold State.dequeue
  cases h : s.queue with
  | nil => simp
  | cons v q =>
    simp only [Except.ok.injEq, Prod.mk.injEq, List.cons.injEq]
    constructor
    · rintro ⟨rfl, rfl⟩; exact ⟨q, ⟨rfl, rfl⟩, rfl⟩
    · rintro ⟨q', ⟨rfl, rfl⟩, rfl⟩; exact ⟨rfl, rfl⟩

/-- The head is due exactly when there is one and its target is not above `T` (R164). -/
theorem headDue_eq_true {s : State} {T : Nat} :
    s.headDue T = true ↔ ∃ w q, s.queue = w :: q ∧ w.target ≤ T := by
  unfold State.headDue
  cases s.queue <;> simp

/-! ## Time -/

/-- Everything one internal tick can do: it writes the four channels, each by its own tick (R132). -/
theorem tick_eq (s : State) :
    tick s = { s with
      tone0 := s.tone0.tick, tone1 := s.tone1.tick, tone2 := s.tone2.tick,
      noise := s.noise.tick s.cfg.tap (activePeriod s.params s.noise.mode s.tone2.tick.period) } := rfl

/-- A tone tick never writes the period or the volume. -/
@[simp] theorem Tone.tick_period (t : Tone) : t.tick.period = t.period := by
  unfold Tone.tick; split <;> [split; skip] <;> rfl

@[simp] theorem Tone.tick_vol (t : Tone) : t.tick.vol = t.vol := by
  unfold Tone.tick; split <;> [split; skip] <;> rfl

/-- A noise tick never writes the type, the mode or the volume. -/
@[simp] theorem Noise.tick_type (tap : TapConfig) (r : Count) (n : Noise) : (n.tick tap r).type = n.type := by
  unfold Noise.tick Noise.shift; split <;> [skip; rfl]; dsimp only; split <;> rfl

@[simp] theorem Noise.tick_mode (tap : TapConfig) (r : Count) (n : Noise) : (n.tick tap r).mode = n.mode := by
  unfold Noise.tick Noise.shift; split <;> [skip; rfl]; dsimp only; split <;> rfl

@[simp] theorem Noise.tick_vol (tap : TapConfig) (r : Count) (n : Noise) : (n.tick tap r).vol = n.vol := by
  unfold Noise.tick Noise.shift; split <;> [skip; rfl]; dsimp only; split <;> rfl

/-- The fields that no chip cycle writes, with what it does to the rest left open. -/
structure SameButChannels (s t : State) : Prop where
  params : t.params = s.params
  cfg : t.cfg = s.cfg
  built : t.built = s.built
  atten : t.atten = s.atten
  warn : t.warn = s.warn
  latch : t.latch = s.latch
  queue : t.queue = s.queue
  cycle : t.cycle = s.cycle
  rem : t.rem = s.rem
  ops : t.ops = s.ops
  samples : t.samples = s.samples
  period : ∀ i, (t.tone i).period = (s.tone i).period
  vol : ∀ i, (t.tone i).vol = (s.tone i).vol
  noise_type : t.noise.type = s.noise.type
  noise_mode : t.noise.mode = s.noise.mode
  noise_vol : t.noise.vol = s.noise.vol

theorem SameButChannels.rfl' (s : State) : SameButChannels s s := by
  constructor <;> intros <;> rfl

theorem SameButChannels.trans {s t u : State} (a : SameButChannels s t) (b : SameButChannels t u) :
    SameButChannels s u where
  params := b.params.trans a.params
  cfg := b.cfg.trans a.cfg
  built := b.built.trans a.built
  atten := b.atten.trans a.atten
  warn := b.warn.trans a.warn
  latch := b.latch.trans a.latch
  queue := b.queue.trans a.queue
  cycle := b.cycle.trans a.cycle
  rem := b.rem.trans a.rem
  ops := b.ops.trans a.ops
  samples := b.samples.trans a.samples
  period i := (b.period i).trans (a.period i)
  vol i := (b.vol i).trans (a.vol i)
  noise_type := b.noise_type.trans a.noise_type
  noise_mode := b.noise_mode.trans a.noise_mode
  noise_vol := b.noise_vol.trans a.noise_vol

theorem tick_same (s : State) : SameButChannels s (tick s) := by
  rw [tick_eq]
  constructor <;> first
    | rfl
    | (intro i; fin_cases i; exacts [Tone.tick_period _, Tone.tick_period _, Tone.tick_period _])
    | (intro i; fin_cases i; exacts [Tone.tick_vol _, Tone.tick_vol _, Tone.tick_vol _])
    | exact Noise.tick_type ..
    | exact Noise.tick_mode ..
    | exact Noise.tick_vol ..

theorem setPresc_same (s : State) (p : Nat) : SameButChannels s (s.setPresc p) := by
  constructor <;> first
    | rfl
    | (intro i; fin_cases i <;> rfl)

theorem advanceCycle_same (s : State) : SameButChannels s (advanceCycle s) := by
  unfold advanceCycle
  split
  · exact ((setPresc_same s _).trans (tick_same _)).trans (setPresc_same _ _)
  · exact setPresc_same s _

/-- `Advance(n)` writes the counters, the output bits, the edge flag, the LFSR and the prescaler, and nothing else
(R130, R133, R137). -/
theorem advance_same (n : Nat) (s : State) : SameButChannels s (advance n s) := by
  induction n generalizing s with
  | zero => exact .rfl' s
  | succ n ih => exact (advanceCycle_same s).trans (ih _)

@[simp] theorem advance_zero (s : State) : advance 0 s = s := rfl

/-- Everything advancing to a cycle can do: a fault for a negative gap, else the gap's chip cycles (R164, R165). -/
theorem advanceTo_eq_next {T : Nat} {s t : State} :
    advanceTo T s = .next t ↔ s.cycle ≤ T ∧ t = (advance (T - s.cycle) s).setCycle T := by
  unfold advanceTo
  split
  · simp only [reduceCtorEq, false_iff, not_and]; omega
  · simp only [Host.Outcome.next.injEq]; exact ⟨fun h => ⟨by omega, h.symm⟩, fun h => h.2.symm⟩

/-! ## Reset -/

/-- A reset writes the registers of R58 and nothing else: the configuration, the table, the warning and the model's two
ends of the interface stand (R231). -/
theorem resetRegisters_keeps (s : State) :
    (resetRegisters s).params = s.params ∧ (resetRegisters s).cfg = s.cfg ∧ (resetRegisters s).built = s.built ∧
      (resetRegisters s).atten = s.atten ∧ (resetRegisters s).warn = s.warn ∧ (resetRegisters s).ops = s.ops ∧
      (resetRegisters s).samples = s.samples := ⟨rfl, rfl, rfl, rfl, rfl, rfl, rfl⟩

end Sys2Proof.Machine
end

