-- ==== Sys2Proof/Laws/PerInstr.lean ====
section
/-! SUPPORT. The per-instruction family RowBytes: an instruction's encoding fits its row of spec/opcode_table.json. -/

namespace Sys2Proof.Laws.RowBytes

/-- A command form encodes to one byte that its table row's match and mask admit; a host operation, whose row has
neither, encodes to no byte. -/
def Statement (i : Instr) : Prop :=
  match tableRow i with
  | none => encode i = []
  | some (m, k) => ∃ b, encode i = [b] ∧ b &&& k = m

theorem ltp0 (d4 : BitVec 4) : Statement (.ltp0 d4) := ⟨_, rfl, by revert d4; decide⟩
theorem ltv0 (v : Volume) : Statement (.ltv0 v) := ⟨_, rfl, by revert v; decide⟩
theorem ltp1 (d4 : BitVec 4) : Statement (.ltp1 d4) := ⟨_, rfl, by revert d4; decide⟩
theorem ltv1 (v : Volume) : Statement (.ltv1 v) := ⟨_, rfl, by revert v; decide⟩
theorem ltp2 (d4 : BitVec 4) : Statement (.ltp2 d4) := ⟨_, rfl, by revert d4; decide⟩
theorem ltv2 (v : Volume) : Statement (.ltv2 v) := ⟨_, rfl, by revert v; decide⟩
theorem lnc (ty : NoiseType) (m : PeriodMode) : Statement (.lnc ty m) :=
  ⟨_, rfl, by cases ty <;> revert m <;> decide⟩
theorem lnv (v : Volume) : Statement (.lnv v) := ⟨_, rfl, by revert v; decide⟩
theorem dtp (d6 : BitVec 6) : Statement (.dtp d6) := ⟨_, rfl, by revert d6; decide⟩
theorem dtv (v : Volume) : Statement (.dtv v) := ⟨_, rfl, by revert v; decide⟩
theorem dnc (ty : NoiseType) (m : PeriodMode) : Statement (.dnc ty m) :=
  ⟨_, rfl, by cases ty <;> revert m <;> decide⟩
theorem dnv (v : Volume) : Statement (.dnv v) := ⟨_, rfl, by revert v; decide⟩
theorem construct (c r w : Int) : Statement (.construct c r w) := rfl
theorem write (b : Byte) : Statement (.write b) := rfl
theorem generateSample : Statement .generateSample := rfl
theorem generateSamples (n : Nat) : Statement (.generateSamples n) := rfl
theorem reset : Statement .reset := rfl

end Sys2Proof.Laws.RowBytes
end

