-- ==== Sys2Proof/Laws/Sequencer.lean ====
section
/-! SUPPORT. One lemma for each operation of the sequencer and the mixer that says what it can do. -/

namespace Sys2Proof.Machine

/-! ## Apply (R110) -/

/-- A command form runs in the sequencer as it does in `exec`. -/
theorem runCommand_eq_exec {i : Instr} (h : i.isCommand = true) (s : State) : runCommand i s = exec i s := by
  cases i <;> first
    | rfl
    | (simp [Instr.isCommand] at h)

/-- The decoder of a byte gives command forms alone. -/
theorem decodeByte_isCommand (lch : Channel) (lvol : Bool) (b : Byte) : (decodeByte lch lvol b).isCommand = true := by
  unfold decodeByte decodeLatchByte decodeDataByte
  repeat' split
  all_goals rfl

/-- The four channel numbers. -/
theorem channel_cases (ch : Channel) : ch = 0#2 ∨ ch = 1#2 ∨ ch = 2#2 ∨ ch = 3#2 := by
  revert ch; decide

/-- Setting the latch state that a latch form sets itself changes nothing of what the form does. -/
theorem exec_latchFirst (b : Byte) (s : State) :
    exec (decodeLatchByte b) (s.setLatch (latchChannel b) (latchIsVolume b)) = exec (decodeLatchByte b) s := by
  rcases channel_cases (latchChannel b) with hc | hc | hc | hc <;> cases hv : latchIsVolume b <;>
    simp only [decodeLatchByte, hc, hv] <;> rfl

/-- R110: Apply runs the form the byte decodes to, against the latch state as it stands (R98). -/
theorem applyByte_eq_exec (b : Byte) (s : State) :
    applyByte b s = exec (decodeByte s.latch.ch s.latch.vol b) s := by
  simp only [applyByte, runCommand_eq_exec (decodeByte_isCommand ..)]
  cases h : isLatchByte b
  · simp [latchFirst, h]
  · simp only [latchFirst, h, if_true, decodeByte]
    exact exec_latchFirst b s

/-- What Apply may write: the channel registers a command names and the latch state (R119). -/
structure SameButRegisters (s t : State) : Prop where
  params : t.params = s.params
  cfg : t.cfg = s.cfg
  built : t.built = s.built
  atten : t.atten = s.atten
  warn : t.warn = s.warn
  presc : t.presc = s.presc
  queue : t.queue = s.queue
  cycle : t.cycle = s.cycle
  rem : t.rem = s.rem
  ops : t.ops = s.ops
  samples : t.samples = s.samples
  counter : ∀ i, (t.tone i).counter = (s.tone i).counter
  out : ∀ i, (t.tone i).out = (s.tone i).out
  noise_counter : t.noise.counter = s.noise.counter
  noise_edge : t.noise.edge = s.noise.edge
  noise_out : t.noise.out = s.noise.out
  lfsr : t.noise.lfsr = s.noise.lfsr ∨ t.noise.lfsr = 1

theorem setTone_sameButRegisters {s : State} {i : Fin 3} {t : Tone} (hc : t.counter = (s.tone i).counter)
    (ho : t.out = (s.tone i).out) : SameButRegisters s (s.setTone i t) := by
  constructor <;> first
    | exact Or.inl (State.setTone_noise ..▸ rfl)
    | (intro j; rw [State.tone_setTone]; split <;> simp_all)
    | simp

theorem setLatch_sameButRegisters (s : State) (ch : Channel) (vol : Bool) :
    SameButRegisters s (s.setLatch ch vol) := by
  constructor <;> first
    | exact Or.inl rfl
    | (intro j; rw [State.tone_setLatch])
    | rfl

theorem setNoise_sameButRegisters {s : State} {n : Noise} (hc : n.counter = s.noise.counter)
    (he : n.edge = s.noise.edge) (ho : n.out = s.noise.out) (hl : n.lfsr = s.noise.lfsr ∨ n.lfsr = 1) :
    SameButRegisters s (s.setNoise n) := by
  constructor <;> first
    | assumption
    | (intro j; rw [State.tone_setNoise])
    | rfl

theorem SameButRegisters.trans {s t u : State} (a : SameButRegisters s t) (b : SameButRegisters t u) :
    SameButRegisters s u where
  params := b.params.trans a.params
  cfg := b.cfg.trans a.cfg
  built := b.built.trans a.built
  atten := b.atten.trans a.atten
  warn := b.warn.trans a.warn
  presc := b.presc.trans a.presc
  queue := b.queue.trans a.queue
  cycle := b.cycle.trans a.cycle
  rem := b.rem.trans a.rem
  ops := b.ops.trans a.ops
  samples := b.samples.trans a.samples
  counter i := (b.counter i).trans (a.counter i)
  out i := (b.out i).trans (a.out i)
  noise_counter := b.noise_counter.trans a.noise_counter
  noise_edge := b.noise_edge.trans a.noise_edge
  noise_out := b.noise_out.trans a.noise_out
  lfsr := by
    rcases b.lfsr with h | h
    · rw [h]; exact a.lfsr
    · exact .inr h

theorem latchTone_sameButRegisters {s : State} {i : Fin 3} {vol : Bool} {t : Tone}
    (hc : t.counter = (s.tone i).counter) (ho : t.out = (s.tone i).out) :
    SameButRegisters s ((s.setLatch (channelOfTone i) vol).setTone i t) :=
  (setLatch_sameButRegisters s _ _).trans (setTone_sameButRegisters (by simpa using hc) (by simpa using ho))

theorem latchNoise_sameButRegisters {s : State} {vol : Bool} {n : Noise} (hc : n.counter = s.noise.counter)
    (he : n.edge = s.noise.edge) (ho : n.out = s.noise.out) (hl : n.lfsr = s.noise.lfsr ∨ n.lfsr = 1) :
    SameButRegisters s ((s.setLatch 3 vol).setNoise n) :=
  (setLatch_sameButRegisters s _ _).trans (setNoise_sameButRegisters hc he ho hl)

/-- Everything a command form can do when it answers next: it writes registers that commands write, and nothing else. -/
theorem exec_command_sameButRegisters {i : Instr} {s t : State} (hi : i.isCommand = true) (h : exec i s = .next t) :
    SameButRegisters s t := by
  cases i <;> simp only [Instr.isCommand, Bool.false_eq_true] at hi
  case dtp d =>
    obtain ⟨j, -, -, rfl⟩ := withLatchedTone_eq_next.1 (whenBuilt_eq_next.1 h).2
    exact setTone_sameButRegisters rfl rfl
  case dtv v =>
    obtain ⟨j, -, -, rfl⟩ := withLatchedTone_eq_next.1 (whenBuilt_eq_next.1 h).2
    exact setTone_sameButRegisters rfl rfl
  case dnc ty m =>
    obtain ⟨-, -, rfl⟩ := withLatchedNoise_eq_next.1 (whenBuilt_eq_next.1 h).2
    exact setNoise_sameButRegisters rfl rfl rfl (.inr rfl)
  case dnv v =>
    obtain ⟨-, -, rfl⟩ := withLatchedNoise_eq_next.1 (whenBuilt_eq_next.1 h).2
    exact setNoise_sameButRegisters rfl rfl rfl (.inl rfl)
  case lnc ty m =>
    obtain ⟨-, h⟩ := whenBuilt_eq_next.1 h
    cases h; exact latchNoise_sameButRegisters rfl rfl rfl (.inr rfl)
  case lnv v =>
    obtain ⟨-, h⟩ := whenBuilt_eq_next.1 h
    cases h; exact latchNoise_sameButRegisters rfl rfl rfl (.inl rfl)
  all_goals
    obtain ⟨-, h⟩ := whenBuilt_eq_next.1 h
    cases h; exact latchTone_sameButRegisters rfl rfl

/-- A form the decoder gives in the state's latch state always has its effect (R97). -/
theorem exec_decoded_next {s : State} (hb : s.built = true) (b : Byte) :
    ∃ t, exec (decodeByte s.latch.ch s.latch.vol b) s = .next t := by
  unfold decodeByte
  split
  · unfold decodeLatchByte
    repeat' split
    all_goals exact ⟨_, whenBuilt_of_built hb _⟩
  · unfold decodeDataByte
    split
    · rename_i h3
      cases hv : s.latch.vol
      · exact ⟨_, (whenBuilt_of_built hb _).trans (withLatchedNoise_eq_next.2 ⟨h3, hv, rfl⟩)⟩
      · exact ⟨_, (whenBuilt_of_built hb _).trans (withLatchedNoise_eq_next.2 ⟨h3, hv, rfl⟩)⟩
    · rename_i h3
      have hs : ∃ i, s.latch.ch = channelOfTone i := by
        rcases channel_cases s.latch.ch with h | h | h | h
        · exact ⟨0, h⟩
        · exact ⟨1, h⟩
        · exact ⟨2, h⟩
        · exact absurd h h3
      obtain ⟨i, hi⟩ := hs
      cases hv : s.latch.vol
      · exact ⟨_, (whenBuilt_of_built hb _).trans (withLatchedTone_eq_next.2 ⟨i, hi, hv, rfl⟩)⟩
      · exact ⟨_, (whenBuilt_of_built hb _).trans (withLatchedTone_eq_next.2 ⟨i, hi, hv, rfl⟩)⟩

/-- R110, R97: on a block that exists Apply answers next for every byte, and writes registers alone. -/
theorem applyByte_next {s : State} (hb : s.built = true) (b : Byte) :
    ∃ t, applyByte b s = .next t ∧ SameButRegisters s t := by
  rw [applyByte_eq_exec]
  obtain ⟨t, ht⟩ := exec_decoded_next hb b
  exact ⟨t, ht, exec_command_sameButRegisters (decodeByte_isCommand ..) ht⟩

/-! ## The loop of R164 -/

@[simp] theorem drainDue_zero (T : Nat) (s : State) : drainDue 0 T s = .next s := rfl

/-- With nothing due at the head the loop ends where it stands. -/
theorem drainDue_of_not_due {T : Nat} {s : State} (h : s.headDue T = false) (fuel : Nat) :
    drainDue fuel T s = .next s := by
  cases fuel with
  | zero => rfl
  | succ n => simp [drainDue, h]

/-- With a due head the loop applies it at its cycle and goes on. -/
theorem drainDue_of_due {T : Nat} {s : State} {w : PendingWrite} {q : List PendingWrite} (hq : s.queue = w :: q)
    (hw : w.target ≤ T) (fuel : Nat) :
    drainDue (fuel + 1) T s = andThen (applyAt w (s.setQueue q)) (drainDue fuel T) := by
  have hd : s.headDue T = true := headDue_eq_true.2 ⟨w, q, hq, hw⟩
  simp [drainDue, hd, State.dequeue, hq]

/-! ## The mixer -/

/-- R13: every table entry is below 2^31. -/
theorem amplitude_lt (a : Vector Amplitude 16) (v : Volume) : amplitude a v < 2 ^ 31 := (a.get v.toFin).isLt

theorem contribution_lt (a : Vector Amplitude 16) (o : Bool) (v : Volume) : contribution a o v < 2 ^ 31 := by
  unfold contribution
  split
  · exact amplitude_lt a v
  · decide

/-- R173: the accumulator stays below 2^33, so the value before the clamp is at most 32767. -/
theorem mixSum_lt (s : State) : mixSum s < 2 ^ 33 := by
  have h0 := contribution_lt s.atten s.tone0.out s.tone0.vol
  have h1 := contribution_lt s.atten s.tone1.out s.tone1.vol
  have h2 := contribution_lt s.atten s.tone2.out s.tone2.vol
  have h3 := contribution_lt s.atten s.noise.out s.noise.vol
  unfold mixSum
  omega

end Sys2Proof.Machine
end

