-- ==== Sys2Proof/Tests/Slice0.lean ====
section
/-! SUPPORT. Tests on single steps, with results taken from the vectors of spec/95_test_vectors.md, and the witnesses that
the hypotheses of the statements can be met. -/

namespace Sys2Proof.Machine

/-! ## Helpers -/

/-- A block with the given rates, tap and write latency, right after CONSTRUCT. -/
def testBlock (clock rate : Nat) (tap : TapConfig) (latency : Nat) : State :=
  { State.reset with
    params := { defaultParams with writeLatency := latency }
    cfg := { clockRate := clock, sampleRate := rate, tap := tap } }

/-- The outcome is a next state that passes the check. -/
def answers (o : Out) (check : State → Bool) : Bool :=
  match o with
  | .next t => check t
  | .fault _ => false
  | .refused _ => false

/-- The outcome is that refusal. -/
def refusesWith (o : Out) (r : Refusal) : Bool :=
  match o with
  | .next _ => false
  | .fault _ => false
  | .refused q => decide (q = r)

/-- The outcome is that fault. -/
def faultsWith (o : Out) (f : Fault) : Bool :=
  match o with
  | .next _ => false
  | .fault g => decide (g = f)
  | .refused _ => false

/-- A block whose operation list is exhausted and whose current latch state is (ch, vol). -/
def latched (ch : Channel) (vol : Bool) : State := State.reset.setLatch ch vol

/-- A block that no CONSTRUCT has built. -/
def unbuilt : State := { State.reset with built := false }

/-! ## Well-formed terms (R190, R100) -/

theorem test_construct_clock_zero_ill_formed : (Instr.construct 0 44100 15).wellFormed = false := by decide

theorem test_construct_sample_rate_zero_ill_formed : (Instr.construct 3579545 0 15).wellFormed = false := by decide

theorem test_construct_negative_rate_ill_formed : (Instr.construct (-1) 44100 15).wellFormed = false := by decide

theorem test_construct_example_well_formed : (Instr.construct 3579545 44100 17).wellFormed = true := by decide

theorem test_dtp_needs_tone_period_latch :
    (Instr.dtp 0).fitsLatch 3 false = false ∧ (Instr.dtp 0).fitsLatch 0 true = false ∧
    (Instr.dtp 0).fitsLatch 2 false = true := by decide

theorem test_dtv_needs_tone_volume_latch :
    (Instr.dtv 0).fitsLatch 3 true = false ∧ (Instr.dtv 0).fitsLatch 0 false = false ∧
    (Instr.dtv 0).fitsLatch 2 true = true := by decide

theorem test_dnc_needs_noise_control_latch :
    (Instr.dnc .white 1).fitsLatch 2 false = false ∧ (Instr.dnc .white 1).fitsLatch 3 true = false ∧
    (Instr.dnc .white 1).fitsLatch 3 false = true := by decide

theorem test_dnv_needs_noise_volume_latch :
    (Instr.dnv 0).fitsLatch 2 true = false ∧ (Instr.dnv 0).fitsLatch 3 false = false ∧
    (Instr.dnv 0).fitsLatch 3 true = true := by decide

/-! ## Decoding: words written out from R92, R93 and R100 (vectors V-E1 to V-E20) -/

theorem test_decode_ltp0 : decode 3 true [0b10001010#8] = .ok (.ltp0 10, []) := by rfl

theorem test_decode_ltv0 : decode 3 true [0b10011111#8] = .ok (.ltv0 15, []) := by rfl

theorem test_decode_ltp1 : decode 0 true [0b10100101#8] = .ok (.ltp1 5, []) := by rfl

theorem test_decode_ltv1 : decode 0 true [0b10111010#8] = .ok (.ltv1 10, []) := by rfl

theorem test_decode_ltp2 : decode 0 true [0b11000001#8] = .ok (.ltp2 1, []) := by rfl

theorem test_decode_ltv2 : decode 0 true [0b11010000#8] = .ok (.ltv2 0, []) := by rfl

theorem test_decode_lnc : decode 0 true [0b11100111#8] = .ok (.lnc .white 3, []) := by rfl

theorem test_decode_lnc_bit3_ignored : decode 0 true [0b11101111#8] = .ok (.lnc .white 3, []) := by rfl

theorem test_decode_lnv : decode 0 false [0b11110000#8] = .ok (.lnv 0, []) := by rfl

theorem test_decode_dtp : decode 1 false [0b00111111#8] = .ok (.dtp 0x3F, []) := by rfl

theorem test_decode_dtp_bit6_ignored : decode 1 false [0b01111111#8] = .ok (.dtp 0x3F, []) := by rfl

theorem test_decode_dtv : decode 2 true [0b01110011#8] = .ok (.dtv 3, []) := by rfl

theorem test_decode_dnc : decode 3 false [0b01111101#8] = .ok (.dnc .white 1, []) := by rfl

theorem test_decode_dnv : decode 3 true [0b00010010#8] = .ok (.dnv 2, []) := by rfl

theorem test_decode_no_byte : decode 0 false [] = .error .noByte := by rfl

theorem test_table_word_latch : decodeTableWord 8 0xE7 = some (.lnc .white 3) := by decide

theorem test_table_word_data : decodeTableWord 8 0x00 = some (.dtp 0) := by decide

theorem test_table_word_two_bytes : decodeTableWord 16 0x0080 = none := by decide

/-! ## Command forms (vectors of L2.2 and the examples of R111 to R118) -/

/-- R111's example: period 0x3F0, `LTP 0, 5` gives 0x3F5 and latch (0, 0). -/
theorem test_ltp0 :
    answers (exec (.ltp0 5) ((latched 2 true).setTone 0 { Tone.atReset with period := 0x3F0 })) (fun t =>
      decide (t.tone0.period = 0x3F5 ∧ t.latch = { ch := 0, vol := false })) = true := by decide

/-- V-W6: the counter and the output stand when the period changes. -/
theorem test_ltp0_keeps_counter :
    answers (exec (.ltp0 15) (State.reset.setTone 0 { period := 112, counter := 112, out := true, vol := 15 }))
      (fun t => decide (t.tone0 = { period := 127, counter := 112, out := true, vol := 15 })) = true := by decide

theorem test_ltv0 :
    answers (exec (.ltv0 0) State.reset) (fun t =>
      decide (t.tone0.vol = 0 ∧ t.latch = { ch := 0, vol := true })) = true := by decide

theorem test_ltp1 :
    answers (exec (.ltp1 5) State.reset) (fun t =>
      decide (t.tone1.period = 5 ∧ t.latch = { ch := 1, vol := false })) = true := by decide

theorem test_ltv1 :
    answers (exec (.ltv1 10) State.reset) (fun t =>
      decide (t.tone1.vol = 10 ∧ t.latch = { ch := 1, vol := true })) = true := by decide

theorem test_ltp2 :
    answers (exec (.ltp2 1) State.reset) (fun t =>
      decide (t.tone2.period = 1 ∧ t.latch = { ch := 2, vol := false })) = true := by decide

theorem test_ltv2 :
    answers (exec (.ltv2 0) State.reset) (fun t =>
      decide (t.tone2.vol = 0 ∧ t.latch = { ch := 2, vol := true })) = true := by decide

/-- V-W9: LFSR 0x1234 is reseeded; counter, edge flag and output stand. -/
theorem test_lnc :
    answers (exec (.lnc .white 3) (State.reset.setNoise
      { lfsr := 0x1234, type := .periodic, mode := 0, counter := 7, edge := true, out := true, vol := 15 })) (fun t =>
      decide (t.latch = { ch := 3, vol := false } ∧ t.noise =
        { lfsr := 1, type := .white, mode := 3, counter := 7, edge := true, out := true, vol := 15 })) = true := by
  decide

theorem test_lnv :
    answers (exec (.lnv 2) State.reset) (fun t =>
      decide (t.noise.vol = 2 ∧ t.latch = { ch := 3, vol := true })) = true := by decide

/-- V-W4: the low nibble is kept. -/
theorem test_dtp_keeps_low_nibble :
    answers (exec (.dtp 0) (State.reset.setTone 0 { Tone.atReset with period := 0x3FF })) (fun t =>
      decide (t.tone0.period = 0x00F)) = true := by decide

/-- V-W5: period 0x005 and `DTP 0x12` give 0x125. -/
theorem test_dtp_tone1 :
    answers (exec (.dtp 0x12) ((latched 1 false).setTone 1 { Tone.atReset with period := 0x005 })) (fun t =>
      decide (t.tone1.period = 0x125 ∧ t.latch = { ch := 1, vol := false })) = true := by decide

/-- V-W8. -/
theorem test_dtv :
    answers (exec (.dtv 3) (latched 0 true)) (fun t =>
      decide (t.tone0.vol = 3 ∧ t.latch = { ch := 0, vol := true })) = true := by decide

/-- V-W10: a reseed to the value the register already had. -/
theorem test_dnc :
    answers (exec (.dnc .white 1) (latched 3 false)) (fun t =>
      decide (t.noise.type = .white ∧ t.noise.mode = 1 ∧ t.noise.lfsr = 1)) = true := by decide

/-- V-W12. -/
theorem test_dnv :
    answers (applyByte 0x7A (latched 3 true)) (fun t => decide (t.noise.vol = 10)) = true := by decide

/-! ## Ticks (vectors of L2.3 to L2.6) -/

/-- V-T4: the first tick after reset with a period set toggles and loads the period. -/
theorem test_tone_tick_from_zero :
    (Tone.tick { period := 5, counter := 0, out := false, vol := 15 }) =
      { period := 5, counter := 5, out := true, vol := 15 } := by decide

/-- V-T3: with period 0 the output is frozen and the counter reaches 0. -/
theorem test_tone_tick_disabled :
    (Tone.tick { period := 0, counter := 1, out := true, vol := 15 }) =
      { period := 0, counter := 0, out := true, vol := 15 } := by decide

/-- V-N5: mode 3 with tone 2's period 0 reloads 0. -/
theorem test_noise_tick_mode3 :
    (noiseTick (State.reset.setNoise { Noise.atReset with mode := 3 })).noise =
      { lfsr := 0x4000, type := .periodic, mode := 3, counter := 0, edge := true, out := false, vol := 15 } := by decide

/-- V-N2: a falling edge does not shift. -/
theorem test_noise_tick_falling :
    (noiseTick (State.reset.setNoise { Noise.atReset with lfsr := 0x4000, counter := 1, edge := true })).noise =
      { lfsr := 0x4000, type := .periodic, mode := 0, counter := 16, edge := false, out := false, vol := 15 } := by decide

/-- V-S3, V-S5, V-S6 and V-S7. -/
theorem test_lfsr_shifts :
    lfsrShifted .tap15 .white 0x0002 = 0x4001 ∧ lfsrShifted .tap16 .white 0x2001 = 0x9000 ∧
    lfsrShifted .tap16 .periodic 0x0001 = 0x8000 ∧ lfsrShifted .tapNone .white 0x0001 = 0x0000 := by decide

/-- V-K5 and V-K6. -/
theorem test_prescaler :
    (advance 1 (State.reset.setPresc 1)).presc = 16 ∧ (advance 2 (State.reset.setPresc 3)).presc = 1 := by decide

/-! ## Mixer (vectors of L2.8) -/

/-- Tones 0 and 1 sounding at the given volumes. -/
def twoTones (v w : Volume) : State :=
  { State.reset with tone0 := { Tone.atReset with out := true, vol := v }, tone1 := { Tone.atReset with out := true, vol := w } }

/-- V-M2 and V-M3: the sum is truncated once. -/
theorem test_mix : mix (twoTones 0 0) = 16383 ∧ mix (twoTones 0 1) = 14698 := by decide

/-- V-M9 and V-M10: volume 15 is silence. -/
theorem test_mix_silence : mix (twoTones 15 15) = 0 ∧ mix (twoTones 0 15) = 8191 := by decide

/-! ## Host operations (vectors of L2.7, L2.9 and L2.10) -/

/-- V-H1: width 17 is no failure and sets the warning. -/
theorem test_construct_unsupported_width :
    answers (exec (.construct 160 10 17) unbuilt) (fun t =>
      decide (t.built = true ∧ t.cfg = { clockRate := 160, sampleRate := 10, tap := .tapNone } ∧ t.warn = true)) = true := by
  decide

/-- V-H5. -/
theorem test_construct_rate_zero : refusesWith (exec (.construct 0 44100 15) State.reset) .rateBelowOne = true := by decide

/-- R191's example: cycle 48, latency 60. -/
theorem test_write :
    answers (exec (.write 0x83) ((testBlock 48 1 .tap16 60).setCycle 48)) (fun t =>
      decide (t.queue = [{ byte := 0x83, latch := true, target := 108 }] ∧ t.latch = State.reset.latch)) = true := by decide

set_option maxRecDepth 20000 in
/-- P1, first sample: cycle 81, remainder 7445, prescaler 15, LFSR 0x4000, noise counter 12, edge 1, sample 0. -/
theorem test_generate_sample :
    answers (exec .generateSample (testBlock 3579545 44100 .tap15 0)) (fun t =>
      decide (t.cycle = 81 ∧ t.rem = 7445 ∧ t.presc = 15 ∧ t.noise.lfsr = 0x4000 ∧ t.noise.counter = 12 ∧
        t.noise.edge = true ∧ t.samples = [0])) = true := by rfl

/-- V-O3: a tick on the cycle of a write comes before the write. -/
theorem test_generate_sample_tick_before_write :
    answers (exec .generateSample ((testBlock 16 1 .tap15 0).enqueue (pendingWrite 0x81 16))) (fun t =>
      decide (t.tone0 = { period := 1, counter := 0, out := false, vol := 15 } ∧ t.queue = [])) = true := by decide

/-- V-R6: the first two samples of 100 / 7. -/
theorem test_generate_samples :
    answers (exec (.generateSamples 2) (testBlock 100 7 .tap15 0)) (fun t =>
      decide (t.cycle = 28 ∧ t.rem = 4 ∧ t.samples = [0, 0])) = true := by decide

/-- V-H6. -/
theorem test_generate_samples_zero : exec (.generateSamples 0) State.reset = .next State.reset := rfl

/-- V-H3: without `RESET_CLEARS_TIMING` the timing registers stand and the queued write is lost. -/
theorem test_reset_keeps_timing :
    answers (exec .reset { State.reset with
        params := { defaultParams with resetClearsTiming := false }
        cycle := 81, rem := 7445, queue := [pendingWrite 0x90 81] }) (fun t =>
      decide (t.cycle = 81 ∧ t.rem = 7445 ∧ t.queue = [] ∧ t.tone0.vol = 15)) = true := by decide

/-- V-H4. -/
theorem test_reset_clears_timing :
    answers (exec .reset { State.reset with cycle := 81, rem := 7445, queue := [pendingWrite 0x90 81] }) (fun t =>
      decide (t.cycle = 0 ∧ t.rem = 0 ∧ t.queue = [])) = true := by decide

theorem test_dequeue_empty :
    (match State.reset.dequeue with | .error f => decide (f = .contractViolation) | .ok _ => false) = true := by decide

/-! ## The step -/

theorem test_step_runs_the_oldest_operation :
    answers (step (State.reset.setOps [.generateSamples 0, .reset])) (fun t => decide (t.ops = [.reset])) = true := by decide

set_option maxRecDepth 20000 in
/-- A byte placed by `withFetchWord` is applied by the next step: `LTV 1, 10` after reset. -/
theorem test_step_runs_a_placed_byte :
    answers (step (State.reset.withFetchWord 8 0xBA)) (fun t =>
      decide (t.tone1.vol = 10 ∧ t.latch = { ch := 1, vol := true } ∧ t.cycle = 81)) = true := by rfl

/-- The pseudo-instruction `TONE 0, 10` is the two bytes of P1. -/
theorem test_pseudo_tone_bytes : lineWR (pseudoTone 0 10) = [.write 0x8A, .write 0x00] := by decide

/-! ## Witnesses: the hypotheses of each statement are met together

`busy` has two writes due in its next sample, `waiting` has one that is not due, and `frozen` breaks R73 on purpose. -/

def busy : State :=
  { testBlock 160 10 .tap16 5 with
    tone1 := { period := 3, counter := 2, out := true, vol := 4 }
    latch := { ch := 2, vol := false }
    presc := 13, cycle := 3, queue := [pendingWrite 0x90 8, pendingWrite 0x0F 8], ops := [.generateSample] }

def waiting : State := { testBlock 160 10 .tap15 60 with cycle := 3, queue := [pendingWrite 0x90 63] }

def frozen : State := { testBlock 160 10 .tap15 0 with cycle := 3, queue := [pendingWrite 0x90 2] }

theorem busy_inv : Inv busy where
  params_wf := by decide
  block _ := {
    clock_pos := by decide
    sample_pos := by decide
    rem_lt := by decide
    presc_pos := by decide
    presc_le := by decide
    lfsr_lt := by decide
    lfsr_ne := by decide
    queue_ordered := by decide
    queue_stamped := by decide
    queue_flags := by decide
    atten_eq := rfl
    warn_eq := by decide }

theorem unbuilt_inv : Inv unbuilt := ⟨by decide, fun h => absurd h (by decide)⟩

theorem witness_LatchTonePeriodWritesLowNibble :
    busy.built = true ∧ (0x85#8).toNat % 16 = (5#4).toNat ∧ 0x85#8 &&& 0xF0#8 = 0x80#8 ∧
    (0xAF#8).toNat % 16 = (15#4).toNat ∧ 0xAF#8 &&& 0xF0#8 = 0xA0#8 ∧
    (0xC0#8).toNat % 16 = (0#4).toNat ∧ 0xC0#8 &&& 0xF0#8 = 0xC0#8 := by decide

theorem witness_LatchToneVolumeReplacesVolume :
    busy.built = true ∧ (0x9F#8).toNat % 16 = (15#4).toNat ∧ 0x9F#8 &&& 0xF0#8 = 0x90#8 ∧
    (0xBA#8).toNat % 16 = (10#4).toNat ∧ 0xBA#8 &&& 0xF0#8 = 0xB0#8 ∧
    (0xD0#8).toNat % 16 = (0#4).toNat ∧ 0xD0#8 &&& 0xF0#8 = 0xD0#8 := by decide

theorem witness_LatchNoiseControlReseeds :
    busy.built = true ∧ 0xEF#8 &&& 0xF0#8 = 0xE0#8 ∧ (0xEF#8).toNat % 4 = (3#2).toNat ∧
    ((0xEF#8).toNat / 4 % 2 = 1 ↔ NoiseType.white = .white) ∧ 0xE0#8 &&& 0xF0#8 = 0xE0#8 ∧
    (0xE0#8).toNat % 4 = (0#2).toNat ∧ ((0xE0#8).toNat / 4 % 2 = 1 ↔ NoiseType.periodic = .white) := by decide

theorem witness_LatchNoiseVolumeReplacesVolume :
    busy.built = true ∧ 0xFF#8 &&& 0xF0#8 = 0xF0#8 ∧ (0xFF#8).toNat % 16 = (15#4).toNat := by decide

theorem witness_DataTonePeriodWritesHighBits :
    (∀ ch : Channel, ch ≠ 3 → (latched ch false).built = true ∧ (latched ch false).latch.vol = false ∧
      (latched ch false).latch.ch = ch) ∧
    0x7F#8 &&& 0x80#8 = 0x00#8 ∧ (0x7F#8).toNat % 64 = (0x3F#6).toNat := by decide

theorem witness_DataToneVolumeReplacesVolume :
    (∀ ch : Channel, ch ≠ 3 → (latched ch true).built = true ∧ (latched ch true).latch.vol = true ∧
      (latched ch true).latch.ch = ch) ∧
    0x73#8 &&& 0x80#8 = 0x00#8 ∧ (0x73#8).toNat % 16 = (3#4).toNat := by decide

theorem witness_DataNoiseControlReseeds :
    (latched 3 false).built = true ∧ (latched 3 false).latch = { ch := 3, vol := false } ∧
    0x7D#8 &&& 0x80#8 = 0x00#8 ∧ (0x7D#8).toNat % 4 = (1#2).toNat ∧
    ((0x7D#8).toNat / 4 % 2 = 1 ↔ NoiseType.white = .white) := by decide

theorem witness_DataNoiseVolumeReplacesVolume :
    (latched 3 true).built = true ∧ (latched 3 true).latch = { ch := 3, vol := true } ∧
    0x12#8 &&& 0x80#8 = 0x00#8 ∧ (0x12#8).toNat % 16 = (2#4).toNat := by decide

theorem witness_DataFormsStopOutsideTheirLatchState :
    busy.built = true ∧ (Instr.dnv 3).isCommand = true ∧
    (Instr.dnv 3).fitsLatch busy.latch.ch busy.latch.vol = false := by decide

/-- A latch byte to register 7 and a data byte to register 4. -/
theorem witness_ApplyByteFollowsRegisterMap :
    busy.built = true ∧ (true = true ↔ 128 ≤ (0xF2#8).toNat) ∧ (3#2).toNat = (0xF2#8).toNat / 32 % 4 ∧
    (true = true ↔ (0xF2#8).toNat / 16 % 2 = 1) ∧ 7 = 2 * (3#2).toNat + 1 ∧
    (false = true ↔ 128 ≤ (0x7F#8).toNat) ∧ (2#2).toNat = busy.latch.ch.toNat ∧
    (false = true ↔ busy.latch.vol = true) ∧ 4 = 2 * (2#2).toNat + 0 := by decide

theorem witness_CommandsNeverTouchTiming :
    (Instr.ltp0 3).isCommand = true ∧ ∃ t, exec (.ltp0 3) busy = .next t := ⟨rfl, _, rfl⟩

theorem witness_ReapplyingAByteOnlyReseeds :
    busy.built = true ∧
    answers (applyByte 0x90 busy) (fun t => decide (t.latch ≠ { ch := 3, vol := false })) = true ∧
    answers (applyByte 0xE7 busy) (fun t => decide (t.latch = { ch := 3, vol := false })) = true ∧
    (0xE7#8).getLsbD 7 = true := by decide

theorem witness_PeriodPartsMayComeInEitherOrder :
    busy.built = true ∧ busy.latch = { ch := channelOfTone 2, vol := false } := by decide

theorem witness_PseudoInstructionsHaveTheirEffects : busy.built = true := rfl

theorem witness_DecodeOfEncodeGivesTheFormBack :
    (Instr.dnc .white 3).isCommand = true ∧ (Instr.dnc .white 3).fitsLatch 3 false = true ∧
    (Instr.ltv2 15).isCommand = true ∧ (Instr.ltv2 15).fitsLatch 3 false = true := by decide

theorem witness_EveryByteIsExactlyOneForm :
    (Instr.dtv 3).fitsLatch 2 true = true ∧ tableRow (.dtv 3) = some (0x00#8, 0x80#8) ∧
    0x73#8 &&& 0x80#8 = 0x00#8 := by decide

theorem witness_IgnoredBitsAreExactlyThoseWithoutEffect :
    (0xE7#8 ^^^ 0xEF#8) &&& ~~~(ignoredBits busy.latch.ch busy.latch.vol 0xE7#8) = 0#8 ∧
    (0x3F#8 ^^^ 0x7F#8) &&& ~~~(ignoredBits busy.latch.ch busy.latch.vol 0x3F#8) = 0#8 := by decide

theorem witness_StepRunsTheDecodedInstruction :
    busy.ops = .generateSample :: [] ∧ waiting.ops = [] ∧ busy.built = true ∧
    busy.queue = pendingWrite 0x90 8 :: [pendingWrite 0x0F 8] ∧ busy.cycle ≤ (pendingWrite 0x90 8).target ∧
    (pendingWrite 0x90 8).target ≤ 8 := by decide

theorem witness_FetchedWordRunsInTheNextStep : busy.built = true := rfl

theorem witness_AdvanceClosedForm :
    1 ≤ (busy.setPresc 1).presc ∧ (busy.setPresc 1).presc ≤ 16 ∧ 1 ≤ (busy.setPresc 16).presc ∧
    (busy.setPresc 16).presc ≤ 16 := by decide

theorem witness_TickOrderDoesNotMatter :
    [noiseTick, toneTick 2, toneTick 1, toneTick 0].Perm [toneTick 0, toneTick 1, toneTick 2, noiseTick] :=
  (List.reverse_perm [toneTick 0, toneTick 1, toneTick 2, noiseTick] :)

/-- Counters at the two ends of the expiring range, at 2 and at the largest value. -/
theorem witness_ToneTickCountsDownAndToggles :
    (State.reset.setTone 0 { period := 5, counter := 1, out := false, vol := 0 }).tone0.counter.toNat ≤ 1 ∧
    (State.reset.setTone 0 { period := 5, counter := 1, out := false, vol := 0 }).tone0.period ≠ 0 ∧
    (State.reset.tone 1).counter.toNat ≤ 1 ∧ (State.reset.tone 1).period = 0 ∧
    (busy.tone 1).counter.toNat = (1#10).toNat + 1 ∧ 1 ≤ (1#10).toNat ∧
    (1023#10).toNat = (1022#10).toNat + 1 ∧ 1 ≤ (1022#10).toNat := by decide

theorem witness_PeriodZeroFreezesTheOutput : (busy.tone 0).period = 0 := rfl

theorem witness_ToneTogglesOnceEveryPeriod :
    (busy.tone 1).period ≠ 0 ∧ ((busy.setPresc 16).tone 1).period ≠ 0 ∧ (busy.setPresc 16).presc = 16 := by decide

/-- Mode 0 expiring on a rising edge, mode 3 expiring on a falling one, mode 1 counting down. -/
theorem witness_NoiseTickReloadsAndShiftsOnRisingEdges :
    (State.reset.noise.mode = 0 ∧ 16#10 = State.reset.params.noiseFixed0 ∧ State.reset.noise.counter.toNat ≤ 1 ∧
      State.reset.noise.edge = false) ∧
    (let s := State.reset.setNoise { Noise.atReset with mode := 3, counter := 1, edge := true }
     s.noise.mode = 3 ∧ 0#10 = s.tone2.period ∧ s.noise.counter.toNat ≤ 1 ∧ s.noise.edge = true) ∧
    (let s := State.reset.setNoise { Noise.atReset with mode := 1, counter := 2 }
     s.noise.mode = 1 ∧ 32#10 = s.params.noiseFixed1 ∧ s.noise.counter.toNat = (1#10).toNat + 1 ∧
      1 ≤ (1#10).toNat) := by decide

theorem witness_LfsrShiftWithTheConfiguredTap :
    (0x7FFF#16).toNat < 2 ^ 15 ∧ (0xFFFF#16).toNat < 2 ^ 16 ∧ (busy.noise.lfsr = 1 ∧ busy.noise.type = .periodic) := by
  decide

theorem witness_SupportedLfsrIsNeverZero :
    TapConfig.tap15 ≠ .tapNone ∧ (0x4000#16).toNat < 2 ^ lfsrWidth .tap15 ∧ 0x4000#16 ≠ 0 ∧
    TapConfig.tap16 ≠ .tapNone ∧ (0x8000#16).toNat < 2 ^ lfsrWidth .tap16 ∧ 0x8000#16 ≠ 0 := by decide

theorem witness_UnsupportedWidthSilencesTheNoise :
    (Noise.atReset).lfsr.toNat ≤ 1 ∧
    (let s := (testBlock 160 10 .tapNone 0).setNoise { Noise.atReset with lfsr := 0 }
     s.cfg.tap = .tapNone ∧ s.noise.lfsr = 0 ∧ s.noise.out = false) := by decide

/-- A reload of 16 and one of 0. -/
theorem witness_NoiseShiftsOnceEveryTwoReloads :
    16 = (activePeriod busy.params busy.noise.mode busy.tone2.period).toNat ∧ busy.noise.counter.toNat ≤ 1 ∧
    busy.noise.edge = false ∧ 0 = (activePeriod busy.params 3 busy.tone2.period).toNat := by decide

theorem witness_RateStepConsumesWholeCycles :
    (1 ≤ busy.cfg.sampleRate ∧ busy.rem < busy.cfg.sampleRate ∧ busy.cfg.sampleRate ∣ busy.cfg.clockRate) ∧
    (let s := testBlock 3 10 .tap15 0
     1 ≤ s.cfg.sampleRate ∧ s.rem < s.cfg.sampleRate ∧ s.rem + s.cfg.clockRate < s.cfg.sampleRate) := by decide

theorem witness_RateConversionHasNoDrift :
    busy.built = true ∧ 1 ≤ busy.cfg.sampleRate ∧ busy.rem = 0 ∧ QueueOrdered busy := by decide

/-- One state with due writes, one with none due. -/
theorem witness_GenerateSampleCompletes :
    (busy.built = true ∧ QueueOrdered busy ∧ 19 = busy.cycle + rateCycles busy) ∧
    (waiting.built = true ∧ QueueOrdered waiting ∧ 19 = waiting.cycle + rateCycles waiting ∧
      ∀ w ∈ waiting.queue, 19 < w.target) := by decide

theorem witness_SampleIsCycleByCycle : busy.built = true ∧ QueueOrdered busy := by decide

theorem witness_WritesActAtTheirOwnCycle_later :
    busy.cycle + rateCycles busy < (pendingWrite 0x90 20).target ∧ ∃ t, exec .generateSample busy = .next t :=
  ⟨by decide, _, rfl⟩

theorem witness_WritesActAtTheirOwnCycle_within :
    busy.built = true ∧ (∀ v ∈ busy.queue, v.target ≤ (pendingWrite 0x90 19).target) ∧
    (pendingWrite 0x90 19).target ≤ busy.cycle + rateCycles busy ∧ busy.cycle ≤ (pendingWrite 0x90 19).target ∧
    ∃ u, andThen (drainDue busy.queue.length (pendingWrite 0x90 19).target (rateStep busy))
      (advanceTo (pendingWrite 0x90 19).target) = .next u :=
  ⟨by decide, by decide, by decide, by decide, _, rfl⟩

theorem witness_NegativeGapFaults :
    QueueOrdered busy ∧ frozen.built = true ∧ frozen.queue = pendingWrite 0x90 2 :: [] ∧
    (pendingWrite 0x90 2).target < frozen.cycle := by decide

theorem witness_EqualStampsApplyBackToBack :
    busy.queue = pendingWrite 0x90 8 :: pendingWrite 0x0F 8 :: [] ∧
    (pendingWrite 0x90 8).target = (pendingWrite 0x0F 8).target ∧ busy.cycle ≤ (pendingWrite 0x90 8).target ∧
    (pendingWrite 0x90 8).target ≤ 8 ∧ busy.built = true := by decide

/-- Two states that differ in their hidden fields and agree in what the mixer reads. -/
theorem witness_MixSumsTheSoundingChannels :
    busy.atten = ampQ16Default ∧ busy ≠ busy.setPresc 1 ∧ busy.atten = (busy.setPresc 1).atten ∧
    (∀ i : Fin 3, (busy.tone i).out = ((busy.setPresc 1).tone i).out ∧
      (busy.tone i).vol = ((busy.setPresc 1).tone i).vol) ∧
    busy.noise.out = (busy.setPresc 1).noise.out ∧ busy.noise.vol = (busy.setPresc 1).noise.vol := by decide

theorem witness_VolumeFifteenIsSilent :
    busy.atten = ampQ16Default ∧ (busy.tone 0).vol = 15 ∧ busy.noise.vol = 15 := by decide

theorem witness_MixIsTheIdealRealValue :
    busy.atten = ampQ16Default ∧ ∃ A : Volume → ℝ,
      ∀ v, A v = if v = 15 then 0 else (10 : ℝ) ^ (-(2 * (v.toNat : ℝ)) / 20) :=
  ⟨rfl, _, fun _ => rfl⟩

/-- The least rates, and the two ways below them. -/
theorem witness_ConstructBuildsTheBlock :
    (1 : Int) ≤ 1 ∧ ((0 : Int) < 1 ∨ (1 : Int) < 1) ∧ ((1 : Int) < 1 ∨ (0 : Int) < 1) := by decide

theorem witness_WriteQueuesTheByte : busy.built = true := rfl

theorem witness_GenerateSamplesRepeats : busy.built = true := rfl

theorem witness_ResetRestoresPowerOnValues : busy.built = true := rfl

theorem witness_ResetEqualsFreshConstruct :
    busy.built = true ∧ ∃ s1, exec (.construct 160 10 16) busy = .next s1 ∧ busy.params = s1.params ∧
      busy.cfg = s1.cfg ∧ busy.atten = s1.atten ∧ busy.warn = s1.warn ∧ s1.params.resetClearsTiming = true :=
  ⟨rfl, _, rfl, rfl, rfl, rfl, rfl, rfl⟩

theorem witness_ResetDiscardsPendingWrites : busy.built = true := rfl

theorem witness_SilenceAfterReset : busy.built = true ∧ busy.atten = ampQ16Default := ⟨rfl, rfl⟩

theorem witness_OnlyConstructWritesTheConfiguration :
    (∃ t, exec (.construct 160 10 17) busy = .next t) ∧
    ((¬ ∃ c r w, Instr.reset = .construct c r w) ∧ ∃ t, exec .reset busy = .next t) :=
  ⟨⟨_, rfl⟩, (by rintro ⟨_, _, _, h⟩; cases h), _, rfl⟩

theorem witness_CycleCounterMovesForwardBetweenResets :
    (∃ t, exec .generateSample busy = .next t) ∧ (∃ t, exec .reset busy = .next t) ∧
    (∃ t, exec (.construct 160 10 17) busy = .next t) ∧ ∃ t, exec (.write 0x90) busy = .next t :=
  ⟨⟨_, rfl⟩, ⟨_, rfl⟩, ⟨_, rfl⟩, _, rfl⟩

theorem witness_QueueIsStrictlyFifo :
    (∃ t, exec (.write 0x90) busy = .next t) ∧ (∃ t, exec (.generateSamples 2) busy = .next t) ∧
    (∃ t, exec .reset busy = .next t) ∧ ∃ t, exec (.lnv 3) busy = .next t :=
  ⟨⟨_, rfl⟩, ⟨_, rfl⟩, ⟨_, rfl⟩, _, rfl⟩

theorem witness_OnlySampleOperationsReturnSamples :
    (∃ t, exec .generateSample busy = .next t) ∧ (∃ t, exec (.generateSamples 2) busy = .next t) ∧
    ∃ t, exec (.write 0x90) busy = .next t :=
  ⟨⟨_, rfl⟩, ⟨_, rfl⟩, _, rfl⟩

theorem witness_OperationsAreTotalAfterConstruct :
    Inv busy ∧ busy.built = true ∧ Inv unbuilt ∧ unbuilt.built = false ∧
    ¬ ∃ c r w, HostOp.generateSample = .construct c r w :=
  ⟨busy_inv, rfl, unbuilt_inv, rfl, by rintro ⟨_, _, _, h⟩; cases h⟩

theorem witness_NothingRunsBeforeConstruct :
    unbuilt.built = false ∧ ¬ ∃ c r w, Instr.write 0x90 = .construct c r w :=
  ⟨rfl, by rintro ⟨_, _, _, h⟩; cases h⟩

theorem witness_StepKeepsTheInvariant : Inv busy ∧ ∃ t, step busy = .next t := ⟨busy_inv, _, rfl⟩

theorem witness_StepNeverFaults : Inv busy := busy_inv

end Sys2Proof.Machine
end

section
/-! PROOFS. The Command Queue (spec/20_memory.md R72, R84): what the sequencer takes off its head, and that nothing the
block does reads or moves an entry that waits at its tail. -/

namespace Sys2Proof.Machine

/-! ## Sequencing -/

/-- Two sequences agree when their second parts agree on what the first part answers. -/
theorem andThen_congr {o : Out} {f g : State → Out} (h : ∀ t, o = .next t → f t = g t) :
    andThen o f = andThen o g := by
  cases o with
  | next t => exact h t rfl
  | fault r => rfl
  | refused r => rfl

theorem andThen_next_right (o : Out) : andThen o .next = o := by
  cases o <;> rfl

/-! ## What the sequencer takes off the queue (R164) -/

/-- Advancing to a cycle takes nothing off the queue. -/
theorem advanceTo_queue {T : Nat} {s t : State} (h : advanceTo T s = .next t) : t.queue = s.queue := by
  obtain ⟨-, rfl⟩ := advanceTo_eq_next.1 h
  exact (advance_same _ s).queue

/-- Apply takes nothing off the queue (R119). -/
theorem applyByte_queue {b : Byte} {s t : State} (h : applyByte b s = .next t) : t.queue = s.queue := by
  rw [applyByte_eq_exec] at h
  exact (exec_command_sameButRegisters (decodeByte_isCommand ..) h).queue

theorem applyAt_queue {w : PendingWrite} {s t : State} (h : applyAt w s = .next t) : t.queue = s.queue := by
  obtain ⟨u, hu, ht⟩ := andThen_eq_next.1 h
  exact (applyByte_queue ht).trans (advanceTo_queue hu)

theorem finishSample_queue {T : Nat} {s t : State} (h : finishSample T s = .next t) : t.queue = s.queue := by
  obtain ⟨u, hu, ht⟩ := andThen_eq_next.1 h
  cases ht
  exact advanceTo_queue (s := s) (t := u) hu

/-- Nothing is due at a head whose target is above `T`. -/
theorem headDue_eq_false_of_lt {T : Nat} {s : State} {w : PendingWrite} {q : List PendingWrite}
    (hq : s.queue = w :: q) (hw : T < w.target) : s.headDue T = false := by
  simp [State.headDue, hq, hw]

/-- The loop with fuel for the whole queue removes exactly the due entries at its head. -/
theorem drainDue_queue {T : Nat} {s t : State} (h : drainDue s.queue.length T s = .next t) :
    t.queue = s.queue.dropWhile fun w => decide (w.target ≤ T) := by
  generalize hq : s.queue = q at h ⊢
  induction q generalizing s with
  | nil => cases h; simpa using hq
  | cons v q ih =>
    by_cases hv : v.target ≤ T
    · rw [List.length_cons, drainDue_of_due hq hv] at h
      obtain ⟨u, hu, ht⟩ := andThen_eq_next.1 h
      rw [List.dropWhile_cons_of_pos (by simpa using hv)]
      exact ih (applyAt_queue hu) ht
    · rw [drainDue_of_not_due (headDue_eq_false_of_lt hq (by omega))] at h
      cases h
      rw [List.dropWhile_cons_of_neg (by simpa using hv), hq]

/-- A sample removes exactly the entries at the head that are due at its target cycle. -/
theorem generateSample_queue {s t : State} (h : generateSample s = .next t) :
    t.queue = s.queue.dropWhile fun w => decide (w.target ≤ s.cycle + rateCycles s) := by
  obtain ⟨u, hu, ht⟩ := andThen_eq_next.1 h
  exact (finishSample_queue ht).trans (drainDue_queue (s := rateStep s) hu)

theorem generateSamples_queue_suffix {n : Nat} {s t : State} (h : generateSamples n s = .next t) :
    t.queue <:+ s.queue := by
  induction n generalizing s with
  | zero => cases h; exact List.suffix_rfl
  | succ n ih =>
    obtain ⟨u, hu, ht⟩ := andThen_eq_next.1 h
    have hs : u.queue <:+ s.queue := generateSample_queue hu ▸ List.dropWhile_suffix _
    exact (ih ht).trans hs

/-! ## The queue under each operation -/

theorem exec_write_queue {b : Byte} {s t : State} (h : exec (.write b) s = .next t) :
    t.queue = s.queue ++ [pendingWrite b (s.cycle + s.params.writeLatency)] := by
  obtain ⟨-, ht⟩ := whenBuilt_eq_next.1 h
  cases ht; rfl

theorem exec_generateSample_queue_suffix {s t : State} (h : exec .generateSample s = .next t) :
    t.queue <:+ s.queue :=
  generateSample_queue (whenBuilt_eq_next.1 h).2 ▸ List.dropWhile_suffix _

theorem exec_generateSamples_queue_suffix {n : Nat} {s t : State} (h : exec (.generateSamples n) s = .next t) :
    t.queue <:+ s.queue :=
  generateSamples_queue_suffix (whenBuilt_eq_next.1 h).2

theorem exec_reset_queue {s t : State} (h : exec .reset s = .next t) : t.queue = [] := by
  obtain ⟨-, ht⟩ := whenBuilt_eq_next.1 h
  cases ht; rfl

theorem exec_construct_queue {c r w : Int} {s t : State} (h : exec (.construct c r w) s = .next t) :
    t.queue = [] := by
  change execConstruct c r w s = .next t at h
  unfold execConstruct at h
  split at h <;> cases h
  rfl

/-- Settles O53: each operation's effect on the queue; a sample's is `dropWhile`, which leaves a suffix. -/
theorem queueIsStrictlyFifo : Obligations.QueueIsStrictlyFifo := by
  intro i s t h
  refine ⟨?_, ?_, ?_, fun hi => (exec_command_sameButRegisters hi h).queue⟩
  · rintro ⟨b, rfl⟩
    exact ⟨_, exec_write_queue h⟩
  · intro hi
    have hs : t.queue <:+ s.queue := by
      obtain rfl | ⟨n, rfl⟩ := hi
      · exact exec_generateSample_queue_suffix h
      · exact exec_generateSamples_queue_suffix h
    obtain ⟨applied, happ⟩ := hs
    exact ⟨applied, happ.symm⟩
  · rintro (rfl | ⟨c, r, w, rfl⟩)
    · exact exec_reset_queue h
    · exact exec_construct_queue h

/-! ## A write at the tail (R84) -/

/-- Queue `w` in the state `o` answers; a fault or a refusal stands. -/
def thenEnqueue (w : PendingWrite) (o : Out) : Out := andThen o fun t => .next (t.enqueue w)

@[simp] theorem thenEnqueue_next (w : PendingWrite) (s : State) :
    thenEnqueue w (.next s) = .next (s.enqueue w) := rfl
@[simp] theorem thenEnqueue_fault (w : PendingWrite) (r : Fault) : thenEnqueue w (.fault r) = .fault r := rfl
@[simp] theorem thenEnqueue_refused (w : PendingWrite) (r : Refusal) : thenEnqueue w (.refused r) = .refused r := rfl

theorem andThen_thenEnqueue (w : PendingWrite) (o : Out) (f : State → Out) :
    andThen (thenEnqueue w o) f = andThen o fun t => f (t.enqueue w) :=
  andThen_assoc ..

theorem thenEnqueue_andThen (w : PendingWrite) (o : Out) (f : State → Out) :
    thenEnqueue w (andThen o f) = andThen o fun t => thenEnqueue w (f t) :=
  andThen_assoc ..

@[simp] theorem enqueue_queue (s : State) (w : PendingWrite) : (s.enqueue w).queue = s.queue ++ [w] := rfl
@[simp] theorem enqueue_cycle (s : State) (w : PendingWrite) : (s.enqueue w).cycle = s.cycle := rfl
@[simp] theorem enqueue_presc (s : State) (w : PendingWrite) : (s.enqueue w).presc = s.presc := rfl
@[simp] theorem enqueue_latch (s : State) (w : PendingWrite) : (s.enqueue w).latch = s.latch := rfl

/-- No chip cycle reads or writes the queue. -/
theorem advance_enqueue (n : Nat) (s : State) (w : PendingWrite) :
    advance n (s.enqueue w) = (advance n s).enqueue w := by
  induction n generalizing s with
  | zero => rfl
  | succ n ih =>
    have hcycle : advanceCycle (s.enqueue w) = (advanceCycle s).enqueue w := by
      unfold advanceCycle
      rw [enqueue_presc]
      split <;> rfl
    rw [advance, hcycle, ih, advance]

theorem advanceTo_enqueue (T : Nat) (s : State) (w : PendingWrite) :
    advanceTo T (s.enqueue w) = thenEnqueue w (advanceTo T s) := by
  unfold advanceTo
  rw [enqueue_cycle, advance_enqueue]
  split <;> rfl

theorem whenBuilt_enqueue {s : State} {w : PendingWrite} {o o' : Out} (h : o' = thenEnqueue w o) :
    whenBuilt (s.enqueue w) o' = thenEnqueue w (whenBuilt s o) := by
  cases hb : s.built
  · rw [whenBuilt_of_unbuilt hb, whenBuilt_of_unbuilt (s := s.enqueue w) hb, thenEnqueue_refused]
  · rw [whenBuilt_of_built hb, whenBuilt_of_built (s := s.enqueue w) hb, h]

theorem setTone_enqueue (s : State) (w : PendingWrite) (i : Fin 3) (t : Tone) :
    (s.enqueue w).setTone i t = (s.setTone i t).enqueue w := by
  fin_cases i <;> rfl

@[simp] theorem tone_enqueue (s : State) (w : PendingWrite) (i : Fin 3) : (s.enqueue w).tone i = s.tone i := by
  fin_cases i <;> rfl

/-- A data form's write of the latched tone channel. -/
theorem withLatchedTone_enqueue (vol : Bool) (s : State) (w : PendingWrite) (f : Tone → Tone) :
    withLatchedTone vol (s.enqueue w) (fun i => (s.enqueue w).setTone i (f ((s.enqueue w).tone i))) =
      thenEnqueue w (withLatchedTone vol s fun i => s.setTone i (f (s.tone i))) := by
  unfold withLatchedTone
  simp only [enqueue_latch, tone_enqueue, setTone_enqueue]
  cases toneOfChannel s.latch.ch with
  | none => rfl
  | some i => dsimp only; split <;> rfl

/-- A data form's write of the latched noise channel. -/
theorem withLatchedNoise_enqueue (vol : Bool) (s : State) (w : PendingWrite) (n : Noise) :
    withLatchedNoise vol (s.enqueue w) ((s.enqueue w).setNoise n) =
      thenEnqueue w (withLatchedNoise vol s (s.setNoise n)) := by
  unfold withLatchedNoise
  rw [enqueue_latch]
  split <;> rfl

/-- A command form neither reads nor writes the queue. -/
theorem exec_command_enqueue {i : Instr} (hi : i.isCommand = true) (s : State) (w : PendingWrite) :
    exec i (s.enqueue w) = thenEnqueue w (exec i s) := by
  cases i <;> simp only [Instr.isCommand, Bool.false_eq_true] at hi
  case dtp d => exact whenBuilt_enqueue (withLatchedTone_enqueue ..)
  case dtv v => exact whenBuilt_enqueue (withLatchedTone_enqueue ..)
  case dnc ty m => exact whenBuilt_enqueue (withLatchedNoise_enqueue ..)
  case dnv v => exact whenBuilt_enqueue (withLatchedNoise_enqueue ..)
  all_goals exact whenBuilt_enqueue rfl

theorem applyByte_enqueue (b : Byte) (s : State) (w : PendingWrite) :
    applyByte b (s.enqueue w) = thenEnqueue w (applyByte b s) := by
  rw [applyByte_eq_exec, applyByte_eq_exec]
  exact exec_command_enqueue (decodeByte_isCommand ..) s w

theorem applyAt_enqueue (v : PendingWrite) (s : State) (w : PendingWrite) :
    applyAt v (s.enqueue w) = thenEnqueue w (applyAt v s) := by
  rw [applyAt, advanceTo_enqueue, andThen_thenEnqueue, applyAt, thenEnqueue_andThen]
  exact andThen_congr fun t _ => applyByte_enqueue ..

theorem finishSample_enqueue (T : Nat) (s : State) (w : PendingWrite) :
    finishSample T (s.enqueue w) = thenEnqueue w (finishSample T s) := by
  rw [finishSample, advanceTo_enqueue, andThen_thenEnqueue, finishSample, thenEnqueue_andThen]
  rfl

/-- Fuel that the entries before `w` use up leaves `w` in the queue. -/
theorem drainDue_enqueue {fuel T : Nat} {s : State} (w : PendingWrite) (hf : fuel ≤ s.queue.length) :
    drainDue fuel T (s.enqueue w) = thenEnqueue w (drainDue fuel T s) := by
  induction fuel generalizing s with
  | zero => rfl
  | succ n ih =>
    obtain ⟨v, q, hq⟩ := List.exists_cons_of_length_pos (Nat.zero_lt_of_lt hf)
    have hq' : (s.enqueue w).queue = v :: (q ++ [w]) := by simp [hq]
    have hn : n ≤ q.length := by simpa [hq] using hf
    by_cases hv : v.target ≤ T
    · rw [drainDue_of_due hq' hv, drainDue_of_due hq hv]
      change andThen (applyAt v ((s.setQueue q).enqueue w)) _ = _
      rw [applyAt_enqueue, andThen_thenEnqueue, thenEnqueue_andThen]
      exact andThen_congr fun t ht => ih (by simpa [applyAt_queue ht] using hn)
    · rw [drainDue_of_not_due (headDue_eq_false_of_lt hq (by omega)),
        drainDue_of_not_due (headDue_eq_false_of_lt hq' (by omega)), thenEnqueue_next]

/-- One more unit of fuel is one more round at the end of the loop. -/
theorem drainDue_succ (n T : Nat) (s : State) :
    drainDue (n + 1) T s = andThen (drainDue n T s) (drainDue 1 T) := by
  induction n generalizing s with
  | zero => rfl
  | succ n ih =>
    cases hd : s.headDue T
    · simp only [drainDue_of_not_due hd, andThen_next]
    · obtain ⟨v, q, hq, hv⟩ := headDue_eq_true.1 hd
      rw [drainDue_of_due hq hv, drainDue_of_due hq hv, andThen_assoc]
      exact andThen_congr fun t _ => ih t

/-- A sample with `w` at the tail drains the entries before it, gives `w` one round, and finishes. -/
theorem generateSample_enqueue (s : State) (w : PendingWrite) :
    generateSample (s.enqueue w) =
      andThen (drainDue s.queue.length (s.cycle + rateCycles s) (rateStep s)) fun t =>
        andThen (drainDue 1 (s.cycle + rateCycles s) (t.enqueue w)) (finishSample (s.cycle + rateCycles s)) := by
  change sampleTo (s.cycle + rateCycles s) ((rateStep s).enqueue w) = _
  change andThen (drainDue (s.queue ++ [w]).length _ _) _ = _
  rw [List.length_append, List.length_singleton, drainDue_succ,
    drainDue_enqueue w (s := rateStep s) (le_refl s.queue.length), andThen_thenEnqueue, andThen_assoc]

/-- After the loop nothing at the head is due, so a `w` that is not due either gets no round. -/
theorem drained_enqueue_not_due {T : Nat} {s t : State} {w : PendingWrite}
    (h : drainDue s.queue.length T s = .next t) (hw : T < w.target) : (t.enqueue w).headDue T = false := by
  cases ht : t.queue with
  | nil => exact headDue_eq_false_of_lt (by rw [enqueue_queue, ht, List.nil_append]) hw
  | cons v q =>
    have hv : ¬ v.target ≤ T := by
      have hhead := List.head?_dropWhile_not (fun x => decide (x.target ≤ T)) s.queue
      rw [← drainDue_queue h, ht] at hhead
      exact of_decide_eq_false hhead
    exact headDue_eq_false_of_lt (by rw [enqueue_queue, ht, List.cons_append]) (by omega)

/-- R84, first half: a sample whose target cycle is below the write's leaves it waiting at the tail. -/
theorem generateSample_enqueue_of_later {s : State} {w : PendingWrite} (hw : s.cycle + rateCycles s < w.target) :
    generateSample (s.enqueue w) = thenEnqueue w (generateSample s) := by
  rw [generateSample_enqueue, generateSample, sampleTo, thenEnqueue_andThen]
  refine andThen_congr fun t ht => ?_
  rw [drainDue_of_not_due (drained_enqueue_not_due (s := rateStep s) ht hw), andThen_next, finishSample_enqueue]

/-- Two targets at which the whole queue is due drain it alike. -/
theorem drainDue_of_all_due {T T' : Nat} {s : State} (h : ∀ v ∈ s.queue, v.target ≤ T ∧ v.target ≤ T') :
    drainDue s.queue.length T s = drainDue s.queue.length T' s := by
  generalize hq : s.queue = q at h ⊢
  induction q generalizing s with
  | nil => rfl
  | cons v q ih =>
    obtain ⟨hv, hv'⟩ := h v List.mem_cons_self
    rw [List.length_cons, drainDue_of_due hq hv, drainDue_of_due hq hv']
    exact andThen_congr fun t ht => ih (applyAt_queue ht) fun x hx => h x (List.mem_cons_of_mem _ hx)

/-- With `w` alone in the queue and due, the one round applies it. -/
theorem drainDue_one_of_last {T : Nat} {t : State} {w : PendingWrite} (ht : t.queue = []) (hw : w.target ≤ T) :
    drainDue 1 T (t.enqueue w) = applyAt w t := by
  have hq : (t.enqueue w).queue = w :: [] := by simp [ht]
  have hback : (t.enqueue w).setQueue [] = t := by cases t; cases ht; rfl
  rw [drainDue_of_due hq hw, hback]
  exact andThen_next_right _

/-- R84, second half: a sample whose target cycle is not below the write's drains the entries before it, advances to the
write's cycle, applies it there, and finishes. -/
theorem generateSample_enqueue_of_due {s : State} {w : PendingWrite} (hq : ∀ v ∈ s.queue, v.target ≤ w.target)
    (hw : w.target ≤ s.cycle + rateCycles s) :
    generateSample (s.enqueue w) =
      andThen (andThen (drainDue s.queue.length w.target (rateStep s)) (advanceTo w.target)) fun u =>
        andThen (applyByte w.byte u) (finishSample (s.cycle + rateCycles s)) := by
  have hdue : ∀ v ∈ (rateStep s).queue, v.target ≤ s.cycle + rateCycles s ∧ v.target ≤ w.target :=
    fun v hv => ⟨(hq v hv).trans hw, hq v hv⟩
  have hsame : drainDue s.queue.length (s.cycle + rateCycles s) (rateStep s) =
      drainDue s.queue.length w.target (rateStep s) := drainDue_of_all_due (s := rateStep s) hdue
  rw [generateSample_enqueue, hsame, andThen_assoc]
  refine andThen_congr fun t ht => ?_
  have hempty : t.queue = [] := by
    rw [drainDue_queue (s := rateStep s) ht, List.dropWhile_eq_nil_iff]
    exact fun v hv => decide_eq_true (hq v hv)
  rw [drainDue_one_of_last hempty hw, applyAt, andThen_assoc]

/-- Settles O37: the sample with the write at the tail is the sample before it with one more round of the loop, which
leaves the write queued or applies it at its own cycle. -/
theorem writesActAtTheirOwnCycle : Obligations.WritesActAtTheirOwnCycle := by
  refine ⟨fun s t w h hw => ?_, fun s u w hb hq hw _ hu => ?_⟩
  · obtain ⟨hb, ht⟩ := whenBuilt_eq_next.1 h
    have hs : generateSample (s.enqueue w) = .next (t.enqueue w) := by
      rw [generateSample_enqueue_of_later hw, ht, thenEnqueue_next]
    exact whenBuilt_eq_next.2 ⟨hb, hs⟩
  · have hs := generateSample_enqueue_of_due hq hw
    rw [hu, andThen_next] at hs
    exact (whenBuilt_of_built (s := s.enqueue w) hb _).trans hs

end Sys2Proof.Machine
end

section
/-! PROOFS. The decoder of a register-write byte (spec/30_encoding.md R96, R97, R101): it is R100's table read as a
relation, and encoding the form it gives clears the ignored bits of the byte. -/

namespace Sys2Proof.Machine

/-! ## Bytes that agree under a mask -/

theorem xor_and_eq_zero_iff {b c k : Byte} : (b ^^^ c) &&& k = 0#8 ↔ b &&& k = c &&& k := by
  have hdistrib : (b ^^^ c) &&& k = (b &&& k) ^^^ (c &&& k) := by
    ext i hi
    simp [Bool.and_xor_distrib_right]
  rw [hdistrib, BitVec.xor_eq_zero_iff]

/-- A match leaves no bit outside its mask. -/
theorem and_eq_match_and {b k m : Byte} (h : b &&& k = m) : b &&& k = m &&& k := by
  rw [← h, BitVec.and_assoc, BitVec.and_self]

/-- Bytes that agree under a mask agree under a smaller one. -/
theorem and_eq_and_of_subset {b c k r : Byte} (h : b &&& k = c &&& k) (hr : k &&& r = r) : b &&& r = c &&& r := by
  rw [← hr, ← BitVec.and_assoc, h, BitVec.and_assoc]

theorem getLsbD_eq_of_and_eq {b c k : Byte} (h : b &&& k = c &&& k) {i : Nat} (hk : k.getLsbD i = true) :
    b.getLsbD i = c.getLsbD i := by
  simpa [hk] using congrArg (·.getLsbD i) h

theorem extractLsb'_eq_of_and_eq {b c k : Byte} (h : b &&& k = c &&& k) {i n : Nat}
    (hk : k.extractLsb' i n = BitVec.allOnes n) : b.extractLsb' i n = c.extractLsb' i n := by
  simpa only [BitVec.extractLsb'_and, hk, BitVec.and_allOnes] using congrArg (·.extractLsb' i n) h

/-- A byte under a mask that keeps its low `n` bits is those bits below what a mask `r` with the same high bits leaves. -/
theorem append_extractLsb'_eq_and {b k r m : Byte} {n h : Nat} (hr : b &&& r = m)
    (hhigh : k.extractLsb' n h = r.extractLsb' n h) (hlow : k.extractLsb' 0 n = BitVec.allOnes n) :
    m.extractLsb' n h ++ b.extractLsb' 0 n = (b &&& k).extractLsb' 0 (h + n) := by
  have hhigh' : m.extractLsb' n h = (b &&& k).extractLsb' n h := by
    rw [← hr, BitVec.extractLsb'_and, BitVec.extractLsb'_and, hhigh]
  have hlow' : b.extractLsb' 0 n = (b &&& k).extractLsb' 0 n := by
    rw [BitVec.extractLsb'_and, hlow, BitVec.and_allOnes]
  rw [hhigh', hlow', BitVec.extractLsb'_append_extractLsb'_eq_extractLsb' (Nat.zero_add n).symm]

/-! ## The fields of a byte (R91 to R95) -/

/-- A latch row's mask keeps the three fields of R91 and R92. -/
theorem and_latchMask_eq (b : Byte) : b &&& 0xF0#8 =
    BitVec.ofBool (isLatchByte b) ++ latchChannel b ++ BitVec.ofBool (latchIsVolume b) ++ 0#4 := by
  refine BitVec.eq_of_getLsbD_eq fun i hi => ?_
  simp only [BitVec.getLsbD_append, latchChannel, BitVec.getLsbD_extractLsb', BitVec.getLsbD_ofBool, BitVec.getLsbD_and]
  interval_cases i <;> simp [isLatchByte, latchIsVolume]

/-- The fields of a byte that a latch row admits are those of the row's match. -/
theorem latchFields_of_and_eq {b m : Byte} (h : b &&& 0xF0#8 = m) :
    isLatchByte b = isLatchByte m ∧ latchChannel b = latchChannel m ∧ latchIsVolume b = latchIsVolume m := by
  have hm := and_eq_match_and h
  exact ⟨getLsbD_eq_of_and_eq hm rfl, extractLsb'_eq_of_and_eq hm rfl, getLsbD_eq_of_and_eq hm rfl⟩

/-- A data row's mask keeps the bit of R91 alone. -/
theorem and_dataMask_eq_zero_iff {b : Byte} : b &&& 0x80#8 = 0x00#8 ↔ isLatchByte b = false := by
  rw [show 0x80#8 = BitVec.twoPow 8 7 from rfl, BitVec.and_twoPow]
  change (if isLatchByte b then BitVec.twoPow 8 7 else 0#8) = 0#8 ↔ _
  cases isLatchByte b <;> decide

/-- The noise control's two fields are the low three bits. -/
theorem noiseControl_eq (b : Byte) :
    noiseTypeBit (noiseTypeOfBit (b.getLsbD 2)) ++ modeBits b = b.extractLsb' 0 3 := by
  have htype : noiseTypeBit (noiseTypeOfBit (b.getLsbD 2)) = BitVec.ofBool (b.getLsbD 2) := by
    cases b.getLsbD 2 <;> rfl
  rw [htype]
  refine BitVec.eq_of_getLsbD_eq fun i hi => ?_
  simp only [BitVec.getLsbD_append, modeBits, BitVec.getLsbD_extractLsb', BitVec.getLsbD_ofBool]
  interval_cases i <;> simp

/-- The encoder's noise control byte, its two fields read as one. -/
theorem append_noiseControl_eq (high : BitVec 5) (b : Byte) :
    high ++ noiseTypeBit (noiseTypeOfBit (b.getLsbD 2)) ++ modeBits b = high ++ b.extractLsb' 0 3 := by
  rw [← noiseControl_eq, BitVec.append_assoc]
  rfl

/-! ## The decoder as R100's table -/

/-- R100, row by row: the match and mask that admit the byte, the latch state that a data row requires, and the operands
read from the byte. -/
inductive Decodes (lch : Channel) (lvol : Bool) (b : Byte) : Instr → Prop where
  | ltp0 (row : b &&& 0xF0#8 = 0x80#8) : Decodes lch lvol b (.ltp0 (low4 b))
  | ltv0 (row : b &&& 0xF0#8 = 0x90#8) : Decodes lch lvol b (.ltv0 (low4 b))
  | ltp1 (row : b &&& 0xF0#8 = 0xA0#8) : Decodes lch lvol b (.ltp1 (low4 b))
  | ltv1 (row : b &&& 0xF0#8 = 0xB0#8) : Decodes lch lvol b (.ltv1 (low4 b))
  | ltp2 (row : b &&& 0xF0#8 = 0xC0#8) : Decodes lch lvol b (.ltp2 (low4 b))
  | ltv2 (row : b &&& 0xF0#8 = 0xD0#8) : Decodes lch lvol b (.ltv2 (low4 b))
  | lnc (row : b &&& 0xF0#8 = 0xE0#8) : Decodes lch lvol b (.lnc (noiseTypeOfBit (b.getLsbD 2)) (modeBits b))
  | lnv (row : b &&& 0xF0#8 = 0xF0#8) : Decodes lch lvol b (.lnv (low4 b))
  | dtp (row : b &&& 0x80#8 = 0x00#8) (hch : lch ≠ 3#2) (hvol : lvol = false) : Decodes lch lvol b (.dtp (low6 b))
  | dtv (row : b &&& 0x80#8 = 0x00#8) (hch : lch ≠ 3#2) (hvol : lvol = true) : Decodes lch lvol b (.dtv (low4 b))
  | dnc (row : b &&& 0x80#8 = 0x00#8) (hch : lch = 3#2) (hvol : lvol = false) :
      Decodes lch lvol b (.dnc (noiseTypeOfBit (b.getLsbD 2)) (modeBits b))
  | dnv (row : b &&& 0x80#8 = 0x00#8) (hch : lch = 3#2) (hvol : lvol = true) : Decodes lch lvol b (.dnv (low4 b))

theorem decodeByte_eq_decodeLatchByte {b : Byte} (h : isLatchByte b = true) (lch : Channel) (lvol : Bool) :
    decodeByte lch lvol b = decodeLatchByte b := if_pos h

theorem decodeByte_eq_decodeDataByte {b : Byte} (h : isLatchByte b = false) (lch : Channel) (lvol : Bool) :
    decodeByte lch lvol b = decodeDataByte lch lvol b := if_neg (by simp [h])

section Table

variable {lch : Channel} {lvol : Bool} {b : Byte} {i : Instr}

/-- The decoder's answer stands in the table. -/
theorem decodes_decodeByte (lch : Channel) (lvol : Bool) (b : Byte) :
    Decodes lch lvol b (decodeByte lch lvol b) := by
  cases hl : isLatchByte b
  · have row := and_dataMask_eq_zero_iff.2 hl
    rw [decodeByte_eq_decodeDataByte hl, decodeDataByte]
    by_cases hch : lch = 3#2 <;> cases hvol : lvol <;> simp only [hch, if_true, if_false, Bool.false_eq_true]
    exacts [.dnc row rfl rfl, .dnv row rfl rfl, .dtp row hch rfl, .dtv row hch rfl]
  · have row := and_latchMask_eq b
    rw [decodeByte_eq_decodeLatchByte hl]
    rcases channel_cases (latchChannel b) with hc | hc | hc | hc <;> cases hv : latchIsVolume b <;>
      rw [hl, hc, hv] at row <;> simp only [decodeLatchByte, hc, hv]
    exacts [.ltp0 row, .ltv0 row, .ltp1 row, .ltv1 row, .ltp2 row, .ltv2 row, .lnc row, .lnv row]

/-- The table holds no other answer. -/
theorem Decodes.decodeByte_eq (h : Decodes lch lvol b i) : decodeByte lch lvol b = i := by
  cases h
  case dtp row hch hvol | dtv row hch hvol | dnc row hch hvol | dnv row hch hvol =>
    rw [decodeByte_eq_decodeDataByte (and_dataMask_eq_zero_iff.1 row)]
    simp [decodeDataByte, hch, hvol]
  all_goals
    obtain ⟨hl, hc, hv⟩ := latchFields_of_and_eq ‹b &&& 0xF0#8 = _›
    rw [decodeByte_eq_decodeLatchByte (hl.trans rfl), decodeLatchByte, hc, hv]
    rfl

theorem Decodes.fitsLatch (h : Decodes lch lvol b i) : i.fitsLatch lch lvol = true := by
  cases h <;> simp [Instr.fitsLatch, *]

theorem Decodes.exists_row (h : Decodes lch lvol b i) : ∃ m k, tableRow i = some (m, k) ∧ b &&& k = m := by
  cases h <;> exact ⟨_, _, rfl, ‹_›⟩

/-- A form whose row admits the byte, in a latch state in which it exists, stands in the table for that byte with the
byte's operands. -/
theorem exists_decodes_of_row {m k : Byte} {j : Instr} (hfit : j.fitsLatch lch lvol = true)
    (hrow : tableRow j = some (m, k)) (hb : b &&& k = m) :
    ∃ i, Decodes lch lvol b i ∧ formIndex i = formIndex j := by
  cases j <;> cases hrow
  case ltp0 => exact ⟨_, .ltp0 hb, rfl⟩
  case ltv0 => exact ⟨_, .ltv0 hb, rfl⟩
  case ltp1 => exact ⟨_, .ltp1 hb, rfl⟩
  case ltv1 => exact ⟨_, .ltv1 hb, rfl⟩
  case ltp2 => exact ⟨_, .ltp2 hb, rfl⟩
  case ltv2 => exact ⟨_, .ltv2 hb, rfl⟩
  case lnc => exact ⟨_, .lnc hb, rfl⟩
  case lnv => exact ⟨_, .lnv hb, rfl⟩
  all_goals
    simp only [Instr.fitsLatch, Bool.and_eq_true, decide_eq_true_eq, Bool.not_eq_true'] at hfit
    obtain ⟨hch, hvol⟩ := hfit
  case dtp => exact ⟨_, .dtp hb hch hvol, rfl⟩
  case dtv => exact ⟨_, .dtv hb hch hvol, rfl⟩
  case dnc => exact ⟨_, .dnc hb hch hvol, rfl⟩
  case dnv => exact ⟨_, .dnv hb hch hvol, rfl⟩

end Table

/-- Settles O16: the decoder's answer is the one row of R100's table for the byte. -/
theorem everyByteIsExactlyOneForm : Obligations.EveryByteIsExactlyOneForm := by
  intro lch lvol b
  have hdec := decodes_decodeByte lch lvol b
  refine ⟨decodeByte_isCommand lch lvol b, hdec.fitsLatch, hdec.exists_row, fun j m k hfit hrow hb => ?_⟩
  obtain ⟨i, hi, hindex⟩ := exists_decodes_of_row hfit hrow hb
  rw [hi.decodeByte_eq, hindex]

/-! ## The ignored bits (R96) -/

/-- The bits of a form's byte that the form reads: R100's mask and operand fields. -/
def readBits : Instr → Byte
  | .lnc _ _ => 0xF7#8
  | .dtp _ => 0xBF#8
  | .dtv _ => 0x8F#8
  | .dnc _ _ => 0x87#8
  | .dnv _ => 0x8F#8
  | _ => 0xFF#8

section ReadBits

variable {lch : Channel} {lvol : Bool} {b c : Byte} {i : Instr}

/-- R96: the bits of a byte that are not ignored are those its form reads. -/
theorem Decodes.not_ignoredBits (h : Decodes lch lvol b i) : ~~~ignoredBits lch lvol b = readBits i := by
  cases h
  case dtp row hch hvol | dtv row hch hvol | dnc row hch hvol | dnv row hch hvol =>
    have h7 : b.getLsbD 7 = false := and_dataMask_eq_zero_iff.1 row
    rw [ignoredBits, h7]
    simp [hch, hvol, readBits]
  all_goals
    have hm := and_eq_match_and ‹b &&& 0xF0#8 = _›
    rw [ignoredBits, getLsbD_eq_of_and_eq hm rfl, extractLsb'_eq_of_and_eq hm rfl]
    simp [readBits]

/-- R101: a form's encoding is the byte with the bits that the form does not read cleared. -/
theorem Decodes.encode_eq (h : Decodes lch lvol b i) : encode i = [b &&& readBits i] := by
  cases h
  case lnc row =>
    have hbyte := append_extractLsb'_eq_and (k := 0xF7#8) (n := 3) (h := 5) row rfl rfl
    rw [encode, append_noiseControl_eq]
    simpa [readBits] using hbyte
  case dnc row _ _ =>
    have hbyte := append_extractLsb'_eq_and (k := 0x87#8) (n := 3) (h := 5) row rfl rfl
    rw [encode, append_noiseControl_eq]
    simpa [readBits] using hbyte
  case dtp row _ _ =>
    have hbyte := append_extractLsb'_eq_and (k := 0xBF#8) (n := 6) (h := 2) row rfl rfl
    simpa [encode, low6, readBits] using hbyte
  case dtv row _ _ | dnv row _ _ =>
    have hbyte := append_extractLsb'_eq_and (k := 0x8F#8) (n := 4) (h := 4) row rfl rfl
    simpa [encode, low4, readBits] using hbyte
  all_goals
    have hbyte := append_extractLsb'_eq_and (k := 0xFF#8) (n := 4) (h := 4) ‹b &&& 0xF0#8 = _› rfl rfl
    simpa [encode, low4, readBits] using hbyte

/-- Bytes that agree on every bit a form reads decode to it alike. -/
theorem Decodes.of_and_eq (h : Decodes lch lvol b i) (hbc : b &&& readBits i = c &&& readBits i) :
    Decodes lch lvol c i := by
  by_cases hall : readBits i = BitVec.allOnes 8
  · rw [hall, BitVec.and_allOnes, BitVec.and_allOnes] at hbc
    exact hbc ▸ h
  cases h <;> simp only [readBits] at hbc hall
  case lnc row =>
    rw [getLsbD_eq_of_and_eq hbc rfl, show modeBits b = modeBits c from extractLsb'_eq_of_and_eq hbc rfl]
    exact .lnc ((and_eq_and_of_subset hbc rfl).symm.trans row)
  case dtp row hch hvol =>
    rw [show low6 b = low6 c from extractLsb'_eq_of_and_eq hbc rfl]
    exact .dtp ((and_eq_and_of_subset hbc rfl).symm.trans row) hch hvol
  case dtv row hch hvol =>
    rw [show low4 b = low4 c from extractLsb'_eq_of_and_eq hbc rfl]
    exact .dtv ((and_eq_and_of_subset hbc rfl).symm.trans row) hch hvol
  case dnc row hch hvol =>
    rw [getLsbD_eq_of_and_eq hbc rfl, show modeBits b = modeBits c from extractLsb'_eq_of_and_eq hbc rfl]
    exact .dnc ((and_eq_and_of_subset hbc rfl).symm.trans row) hch hvol
  case dnv row hch hvol =>
    rw [show low4 b = low4 c from extractLsb'_eq_of_and_eq hbc rfl]
    exact .dnv ((and_eq_and_of_subset hbc rfl).symm.trans row) hch hvol
  all_goals exact absurd rfl hall

end ReadBits

/-- R96: decoding reads every bit that is not ignored, and no other. -/
theorem decodeByte_eq_iff (lch : Channel) (lvol : Bool) (b c : Byte) :
    decodeByte lch lvol b = decodeByte lch lvol c ↔
      b &&& ~~~ignoredBits lch lvol b = c &&& ~~~ignoredBits lch lvol b := by
  have hb := decodes_decodeByte lch lvol b
  have hc := decodes_decodeByte lch lvol c
  rw [hb.not_ignoredBits]
  constructor
  · intro h
    have hencode := hb.encode_eq.symm.trans (h ▸ hc.encode_eq)
    exact List.singleton_inj.1 hencode
  · intro h
    exact (hb.of_and_eq h).decodeByte_eq.symm

/-- Settles O17: two bytes agree on the bits that are read exactly when they decode alike, and Apply runs the form. -/
theorem ignoredBitsAreExactlyThoseWithoutEffect : Obligations.IgnoredBitsAreExactlyThoseWithoutEffect := by
  refine ⟨fun lch lvol b c => ?_, fun s b c h => ?_⟩
  · rw [xor_and_eq_zero_iff, decodeByte_eq_iff]
  · rw [applyByte_eq_exec, applyByte_eq_exec, (decodeByte_eq_iff ..).2 (xor_and_eq_zero_iff.1 h)]

end Sys2Proof.Machine
end

section
/-! PROOFS. The register writes of the tone periods and of the data volumes (spec/40_register_writes.md R111, R115,
R116, R118): each form's next state on a block that exists, and the bytes that decode to it. -/

namespace Sys2Proof.Machine

/-! ## Operands read as numbers (R95) -/

theorem low4_eq_of_mod_eq {b : Byte} {v : BitVec 4} (h : b.toNat % 16 = v.toNat) : low4 b = v :=
  BitVec.eq_of_toNat_eq (by simpa [low4] using h)

theorem low6_eq_of_mod_eq {b : Byte} {d : BitVec 6} (h : b.toNat % 64 = d.toNat) : low6 b = d :=
  BitVec.eq_of_toNat_eq (by simpa [low6] using h)

/-! ## The effect of a form whose channel is a variable -/

section Effects

variable {s : State} {i : Fin 3}

theorem exec_latchPeriodForm (hb : s.built = true) (i : Fin 3) (d4 : BitVec 4) :
    exec (latchPeriodForm i d4) s = .next (latchTonePeriod i d4 s) := by
  fin_cases i <;> exact whenBuilt_of_built hb _

theorem exec_dtp_of_latched (hb : s.built = true) (hvol : s.latch.vol = false) (hch : s.latch.ch = channelOfTone i)
    (d6 : BitVec 6) : exec (.dtp d6) s = .next (s.setTone i ((s.tone i).writePeriodHigh d6)) :=
  (whenBuilt_of_built hb _).trans (withLatchedTone_eq_next.2 ⟨i, hch, hvol, rfl⟩)

theorem exec_dtv_of_latched (hb : s.built = true) (hvol : s.latch.vol = true) (hch : s.latch.ch = channelOfTone i)
    (v : Volume) : exec (.dtv v) s = .next (s.setTone i ((s.tone i).writeVolume v)) :=
  (whenBuilt_of_built hb _).trans (withLatchedTone_eq_next.2 ⟨i, hch, hvol, rfl⟩)

theorem exec_dnv_of_latched (hb : s.built = true) (hch : s.latch.ch = 3#2) (hvol : s.latch.vol = true) (v : Volume) :
    exec (.dnv v) s = .next (s.setNoise (s.noise.writeVolume v)) :=
  (whenBuilt_of_built hb _).trans (withLatchedNoise_eq_next.2 ⟨hch, hvol, rfl⟩)

end Effects

/-- Settles O1: the low nibble by R122's arithmetic, for each channel; the bytes are R100's rows. -/
theorem latchTonePeriodWritesLowNibble : Obligations.LatchTonePeriodWritesLowNibble := by
  intro s d4 hb
  refine ⟨⟨_, exec_latchPeriodForm hb 0 d4, withPeriodLow_toNat .., rfl⟩,
    ⟨_, exec_latchPeriodForm hb 1 d4, withPeriodLow_toNat .., rfl⟩,
    ⟨_, exec_latchPeriodForm hb 2 d4, withPeriodLow_toNat .., rfl⟩, fun lch lvol b hlow => ?_⟩
  rw [← low4_eq_of_mod_eq hlow]
  exact ⟨fun row => (Decodes.ltp0 row).decodeByte_eq, fun row => (Decodes.ltp1 row).decodeByte_eq,
    fun row => (Decodes.ltp2 row).decodeByte_eq⟩

/-- Settles O5: the high six bits by R122's arithmetic, for each latched channel; the bytes are R100's DTP row. -/
theorem dataTonePeriodWritesHighBits : Obligations.DataTonePeriodWritesHighBits := by
  intro s d6 hb hvol
  refine ⟨fun hch => ⟨_, exec_dtp_of_latched (i := 0) hb hvol hch d6, withPeriodHigh_toNat .., rfl⟩,
    fun hch => ⟨_, exec_dtp_of_latched (i := 1) hb hvol hch d6, withPeriodHigh_toNat .., rfl⟩,
    fun hch => ⟨_, exec_dtp_of_latched (i := 2) hb hvol hch d6, withPeriodHigh_toNat .., rfl⟩,
    fun hch b row hlow => ?_⟩
  rw [← low6_eq_of_mod_eq hlow]
  exact (Decodes.dtp row hch hvol).decodeByte_eq

/-- Settles O6: the latched channel's volume write; the bytes are R100's DTV row. -/
theorem dataToneVolumeReplacesVolume : Obligations.DataToneVolumeReplacesVolume := by
  intro s v hb hvol
  refine ⟨fun hch => exec_dtv_of_latched (i := 0) hb hvol hch v, fun hch => exec_dtv_of_latched (i := 1) hb hvol hch v,
    fun hch => exec_dtv_of_latched (i := 2) hb hvol hch v, fun hch b row hlow => ?_⟩
  rw [← low4_eq_of_mod_eq hlow]
  exact (Decodes.dtv row hch hvol).decodeByte_eq

/-- Settles O8: the noise volume write; the bytes are R100's DNV row. -/
theorem dataNoiseVolumeReplacesVolume : Obligations.DataNoiseVolumeReplacesVolume := by
  intro s v hb hlatch
  have hch : s.latch.ch = 3#2 := congrArg Latch.ch hlatch
  have hvol : s.latch.vol = true := congrArg Latch.vol hlatch
  refine ⟨exec_dnv_of_latched hb hch hvol v, fun b row hlow => ?_⟩
  rw [← low4_eq_of_mod_eq hlow]
  exact (Decodes.dnv row hch hvol).decodeByte_eq

end Sys2Proof.Machine
end

section
/-! PROOFS. One internal tick and the LFSR (spec/41_channel_tick.md R132, R140 to R143): the channel ticks commute, and
a supported tap never loses the register's last 1. -/

namespace Sys2Proof.Machine

/-! ## The channel ticks commute (R132) -/

theorem setNoise_setTone (s : State) (i : Fin 3) (t : Tone) (n : Noise) :
    (s.setTone i t).setNoise n = (s.setNoise n).setTone i t := by
  fin_cases i <;> rfl

/-- A tone tick reads and writes its own channel alone. -/
theorem toneTick_comm (i j : Fin 3) (s : State) : toneTick i (toneTick j s) = toneTick j (toneTick i s) := by
  fin_cases i <;> fin_cases j <;> rfl

theorem toneTick_period (i j : Fin 3) (s : State) : ((toneTick i s).tone j).period = (s.tone j).period := by
  rw [toneTick, State.tone_setTone]
  split
  next h => rw [h, Tone.tick_period]
  next => rfl

/-- The noise tick reads tone 2's period (R138), which no tone tick writes. -/
theorem noiseTick_toneTick (i : Fin 3) (s : State) : noiseTick (toneTick i s) = toneTick i (noiseTick s) := by
  have hperiod : (toneTick i s).tone2.period = s.tone2.period := toneTick_period i 2 s
  rw [noiseTick, hperiod]
  simp only [toneTick, noiseTick, State.setTone_noise, State.setTone_cfg, State.setTone_params, setNoise_setTone,
    State.tone_setNoise]

/-- The four channel ticks in the order in which `tick` runs them. -/
def channelTicks : List (State → State) := [toneTick 0, toneTick 1, toneTick 2, noiseTick]

theorem mem_channelTicks {f : State → State} : f ∈ channelTicks ↔ (∃ i, f = toneTick i) ∨ f = noiseTick := by
  simp [channelTicks, Fin.exists_fin_succ, or_assoc]

theorem channelTicks_comm {f g : State → State} (hf : f ∈ channelTicks) (hg : g ∈ channelTicks) (s : State) :
    f (g s) = g (f s) := by
  obtain ⟨i, rfl⟩ | rfl := mem_channelTicks.1 hf <;> obtain ⟨j, rfl⟩ | rfl := mem_channelTicks.1 hg
  · exact toneTick_comm i j s
  · exact (noiseTick_toneTick i s).symm
  · exact noiseTick_toneTick j s
  · rfl

/-- Settles O22: a fold over steps that commute does not see their order. -/
theorem tickOrderDoesNotMatter : Obligations.TickOrderDoesNotMatter := by
  intro s l hl
  change l.Perm channelTicks at hl
  have hcomm : ∀ f ∈ l, ∀ g ∈ l, ∀ u : State, g (f u) = f (g u) := fun f hf g hg u =>
    channelTicks_comm (hl.subset hg) (hl.subset hf) u
  exact hl.foldl_eq' hcomm s

/-! ## The LFSR as a number (R140, R141) -/

theorem lfsrWidth_pos (tap : TapConfig) : 0 < lfsrWidth tap := by
  cases tap <;> decide

theorem two_pow_lfsrWidth (tap : TapConfig) : 2 ^ lfsrWidth tap = 2 * 2 ^ (lfsrWidth tap - 1) :=
  (mul_pow_sub_one (lfsrWidth_pos tap).ne' 2).symm

/-- A register of the tap's width loses its low bit and takes the feedback as its new top bit. -/
theorem lfsrShifted_toNat {tap : TapConfig} {x : LfsrWord} (hx : x.toNat < 2 ^ lfsrWidth tap) (ty : NoiseType) :
    (lfsrShifted tap ty x).toNat = x.toNat / 2 + 2 ^ (lfsrWidth tap - 1) * (feedback tap ty x).toNat := by
  have hlow : x.toNat / 2 < 2 ^ (lfsrWidth tap - 1) := by
    rw [two_pow_lfsrWidth] at hx
    omega
  have htop : ((BitVec.ofBool (feedback tap ty x)).setWidth 16 <<< (lfsrWidth tap - 1)).toNat =
      (feedback tap ty x).toNat <<< (lfsrWidth tap - 1) := by
    cases tap <;> cases feedback _ ty x <;> rfl
  rw [lfsrShifted, BitVec.toNat_or, BitVec.toNat_ushiftRight, Nat.shiftRight_eq_div_pow, pow_one, htop, Nat.or_comm,
    ← Nat.shiftLeft_add_eq_or_of_lt hlow, Nat.shiftLeft_eq, Nat.add_comm, Nat.mul_comm]

theorem lfsrShifted_lt {tap : TapConfig} {x : LfsrWord} (hx : x.toNat < 2 ^ lfsrWidth tap) (ty : NoiseType) :
    (lfsrShifted tap ty x).toNat < 2 ^ lfsrWidth tap := by
  have hpow := two_pow_lfsrWidth tap
  rw [lfsrShifted_toNat hx ty]
  cases feedback tap ty x <;> simp only [Bool.toNat_false, Bool.toNat_true] <;> omega

/-- Every tap of R141 but `TAP_NONE` feeds the last 1 back. -/
theorem feedback_one {tap : TapConfig} (h : tap ≠ .tapNone) (ty : NoiseType) : feedback tap ty 1 = true := by
  cases tap with
  | tapNone => exact absurd rfl h
  | tap15 | tap16 => cases ty <;> rfl

/-- R143: a register of the tap's width that is not 0. -/
def NonzeroOfWidth (tap : TapConfig) (x : LfsrWord) : Prop := x ≠ 0 ∧ x.toNat < 2 ^ lfsrWidth tap

/-- The shift drops the register's last 1 only from the value 1, and there the feedback brings it back. -/
theorem lfsrShifted_ne_zero {tap : TapConfig} (htap : tap ≠ .tapNone) (ty : NoiseType) {x : LfsrWord}
    (h : NonzeroOfWidth tap x) : lfsrShifted tap ty x ≠ 0 := by
  obtain ⟨hx, hlt⟩ := h
  intro hzero
  have hsum := lfsrShifted_toNat hlt ty
  rw [hzero] at hsum
  obtain rfl | hone := eq_or_ne x 1
  · have hpow := Nat.two_pow_pos (lfsrWidth tap - 1)
    rw [feedback_one htap, Bool.toNat_true] at hsum
    bv_omega
  · bv_omega

theorem nonzeroOfWidth_lfsrShifted {tap : TapConfig} (htap : tap ≠ .tapNone) (ty : NoiseType) {x : LfsrWord}
    (h : NonzeroOfWidth tap x) : NonzeroOfWidth tap (lfsrShifted tap ty x) :=
  ⟨lfsrShifted_ne_zero htap ty h, lfsrShifted_lt h.2 ty⟩

/-- Settles O28: one shift keeps the register nonzero and of its width, and so does any number. -/
theorem supportedLfsrIsNeverZero : Obligations.SupportedLfsrIsNeverZero := by
  intro tap ty x k htap hlt hx
  have hinit : NonzeroOfWidth tap x := ⟨hx, hlt⟩
  exact Function.Iterate.rec (NonzeroOfWidth tap) hinit (fun _ => nonzeroOfWidth_lfsrShifted htap ty) k

end Sys2Proof.Machine
end

section
/-! PROOFS. The rate converter and the mixer (spec/42_rate_and_mix.md R160 to R163, R172, R175): the remainder is kept
modulo the sample rate, and a channel at volume 15 is out of the sum. -/

namespace Sys2Proof.Machine

/-! ## RateStep (R160) -/

/-- R161: what is left after the whole cycles is the remainder of the division. -/
theorem rateStep_rem (s : State) : (rateStep s).rem = (s.rem + s.cfg.clockRate) % s.cfg.sampleRate := by
  rw [Nat.mod_eq_sub_div_mul]; rfl

theorem rateCycles_mul_add_rem (s : State) :
    rateCycles s * s.cfg.sampleRate + (rateStep s).rem = s.rem + s.cfg.clockRate := by
  rw [rateStep_rem]
  exact Nat.div_add_mod' ..

/-- R163: from a remainder below the sample rate the quotient of the rates is exceeded by the carry alone. -/
theorem rateCycles_eq_quotient_add_carry {s : State} (hr : s.rem < s.cfg.sampleRate) :
    rateCycles s = s.cfg.clockRate / s.cfg.sampleRate +
      if s.cfg.sampleRate ≤ s.rem + s.cfg.clockRate % s.cfg.sampleRate then 1 else 0 := by
  rw [rateCycles, Nat.add_div (Nat.zero_lt_of_lt hr), Nat.div_eq_of_lt hr, Nat.mod_eq_of_lt hr, Nat.zero_add]

/-- Settles O33: the cycles and the remainder are the quotient and the remainder of one division. -/
theorem rateStepConsumesWholeCycles : Obligations.RateStepConsumesWholeCycles := by
  intro s hpos
  refine ⟨rateCycles_mul_add_rem s, ?_, rfl, fun hr => ⟨?_, fun hdvd => ?_⟩, fun hlt => Nat.div_eq_of_lt hlt⟩
  · rw [rateStep_rem]
    exact Nat.mod_lt _ hpos
  · rw [rateCycles_eq_quotient_add_carry hr]
    split
    · exact .inr rfl
    · exact .inl rfl
  · have hcarry : ¬ s.cfg.sampleRate ≤ s.rem + s.cfg.clockRate % s.cfg.sampleRate := by
      rw [Nat.mod_eq_zero_of_dvd hdvd]
      omega
    rw [rateCycles_eq_quotient_add_carry hr, if_neg hcarry, Nat.add_zero]

/-! ## Mix (R172) -/

/-- The accumulator as a sum over the tone channels and the noise. -/
theorem mixSum_eq_sum (s : State) :
    mixSum s = (∑ i : Fin 3, contribution s.atten (s.tone i).out (s.tone i).vol) +
      contribution s.atten s.noise.out s.noise.vol := by
  rw [Fin.sum_univ_three]; rfl

/-- Mix reads the state through the accumulator alone. -/
theorem mix_congr {s t : State} (h : mixSum s = mixSum t) : mix s = mix t := by
  rw [mix, mix, h]

/-- The accumulator sees a rewritten tone channel through what that channel adds. -/
theorem mixSum_setTone {s : State} {i : Fin 3} {t : Tone}
    (h : contribution s.atten t.out t.vol = contribution s.atten (s.tone i).out (s.tone i).vol) :
    mixSum (s.setTone i t) = mixSum s := by
  rw [mixSum_eq_sum, mixSum_eq_sum, State.setTone_atten, State.setTone_noise]
  congr 1
  refine Finset.sum_congr rfl fun j _ => ?_
  obtain rfl | hj := eq_or_ne j i
  · rw [State.tone_setTone_self, h]
  · rw [State.tone_setTone_ne s hj]

theorem mixSum_setNoise {s : State} {n : Noise}
    (h : contribution s.atten n.out n.vol = contribution s.atten s.noise.out s.noise.vol) :
    mixSum (s.setNoise n) = mixSum s := by
  simp only [mixSum_eq_sum, State.setNoise_atten, State.tone_setNoise, State.setNoise_noise, h]

/-- R175: the table's last entry is 0. -/
theorem contribution_fifteen (o : Bool) : contribution ampQ16Default o 15 = 0 := by
  cases o <;> rfl

/-- Settles O41: the changed channel adds 0 before and after. -/
theorem volumeFifteenIsSilent : Obligations.VolumeFifteenIsSilent := by
  refine fun s o htable => ⟨fun i hvol => mix_congr (mixSum_setTone ?_), fun hvol => mix_congr (mixSum_setNoise ?_)⟩
  · rw [htable, hvol, contribution_fifteen, contribution_fifteen]
  · rw [htable, hvol, contribution_fifteen, contribution_fifteen]

end Sys2Proof.Machine
end

section
/-! PROOFS. Sample sequencing (spec/42_rate_and_mix.md R162, R164 to R167): one round of the sequencer as an equation,
the completion of a sample from an ordered queue, and the sample as its chip cycles one by one. -/

namespace Sys2Proof.Machine

/-! ## Chip cycles commute with what they do not read -/

/-- An update that one chip cycle does not see is not seen by any number of them. -/
theorem advance_commute {g : State → State} (h : Function.Commute advanceCycle g) (n : Nat) :
    Function.Commute (advance n) g := by
  induction n with
  | zero => exact fun s => rfl
  | succ n ih => exact ih.comp_left h

theorem advance_setQueue (n : Nat) (s : State) (q : List PendingWrite) :
    advance n (s.setQueue q) = (advance n s).setQueue q := by
  refine advance_commute (g := (·.setQueue q)) (fun s => ?_) n s
  unfold advanceCycle
  rw [State.setQueue_presc]
  split <;> rfl

theorem advance_setCycle (n : Nat) (s : State) (c : Nat) :
    advance n (s.setCycle c) = (advance n s).setCycle c := by
  refine advance_commute (g := (·.setCycle c)) (fun s => ?_) n s
  unfold advanceCycle
  rw [State.setCycle_presc]
  split <;> rfl

/-- R165: a negative gap faults. -/
theorem advanceTo_of_lt {T : Nat} {s : State} (h : T < s.cycle) : advanceTo T s = .fault .negativeGap :=
  if_pos h

theorem advanceTo_of_le {T : Nat} {s : State} (h : s.cycle ≤ T) :
    advanceTo T s = .next ((advance (T - s.cycle) s).setCycle T) :=
  advanceTo_eq_next.2 ⟨h, rfl⟩

/-- R131: advancing to the current cycle changes nothing. -/
theorem advanceTo_self {T : Nat} {s : State} (h : T = s.cycle) : advanceTo T s = .next s := by
  rw [h, advanceTo_of_le le_rfl, Nat.sub_self]; rfl

/-- One chip cycle, adopted as current. -/
def nextCycle (s : State) : State := (advance 1 s).setCycle (s.cycle + 1)

theorem cycleByCycle_succ (n : Nat) (s : State) :
    cycleByCycle (n + 1) s = andThen (applyAllDue s) fun t => cycleByCycle n (nextCycle t) := rfl

@[simp] theorem nextCycle_cycle (s : State) : (nextCycle s).cycle = s.cycle + 1 := rfl

@[simp] theorem nextCycle_queue (s : State) : (nextCycle s).queue = s.queue := (advance_same 1 s).queue

@[simp] theorem nextCycle_built (s : State) : (nextCycle s).built = s.built := (advance_same 1 s).built

theorem nextCycle_setQueue (s : State) (q : List PendingWrite) :
    nextCycle (s.setQueue q) = (nextCycle s).setQueue q := by
  rw [nextCycle, advance_setQueue]; rfl

/-- The first chip cycle of a gap may be passed by itself. -/
theorem advanceTo_nextCycle {T : Nat} {s : State} (h : s.cycle < T) : advanceTo T (nextCycle s) = advanceTo T s := by
  obtain ⟨n, rfl⟩ := Nat.exists_eq_add_of_lt h
  have hgap : s.cycle + n + 1 - s.cycle = n + 1 := by omega
  have hgap' : s.cycle + n + 1 - (nextCycle s).cycle = n := by rw [nextCycle_cycle]; omega
  rw [advanceTo_of_le h.le, advanceTo_of_le (s := nextCycle s) h, hgap, hgap', nextCycle, advance_setCycle]
  rfl

/-! ## One round of the sequencer (R164) -/

/-- Apply on a queue built up from the empty one, an entry at the tail after another. -/
theorem applyByte_setQueue_of_empty (b : Byte) (s : State) (q : List PendingWrite) :
    applyByte b (s.setQueue q) = andThen (applyByte b (s.setQueue [])) fun t => .next (t.setQueue q) := by
  induction q using List.reverseRecOn with
  | nil =>
    rw [← andThen_next_right (applyByte b (s.setQueue [])), andThen_assoc]
    refine andThen_congr fun t ht => ?_
    have hq : t.queue = [] := applyByte_queue ht
    rw [andThen_next, ← hq]; rfl
  | append_singleton q w ih =>
    change applyByte b ((s.setQueue q).enqueue w) = _
    rw [applyByte_enqueue, ih, thenEnqueue_andThen]
    rfl

/-- Applying a byte with another queue behind it puts that queue behind the result. -/
theorem applyByte_setQueue (b : Byte) (s : State) (q : List PendingWrite) :
    applyByte b (s.setQueue q) = andThen (applyByte b s) fun t => .next (t.setQueue q) := by
  have hs : applyByte b s = andThen (applyByte b (s.setQueue [])) fun t => .next (t.setQueue s.queue) :=
    applyByte_setQueue_of_empty b s s.queue
  rw [applyByte_setQueue_of_empty, hs, andThen_assoc]
  rfl

/-- An entry stamped with the current cycle is applied with no gap before it. -/
theorem applyAt_of_target_eq {w : PendingWrite} {s : State} (h : w.target = s.cycle) :
    applyAt w s = applyByte w.byte s := by
  rw [applyAt, advanceTo_self h, andThen_next]

/-- With nothing due at the head a sample is the remaining gap and the mix. -/
theorem sampleTo_of_not_due {T : Nat} {s : State} (h : s.headDue T = false) : sampleTo T s = finishSample T s := by
  rw [sampleTo, drainDue_of_not_due h, andThen_next]

/-- With a due head a sample applies it at its cycle and goes on from there. -/
theorem sampleTo_of_due {T : Nat} {s : State} {w : PendingWrite} {q : List PendingWrite} (hq : s.queue = w :: q)
    (hw : w.target ≤ T) : sampleTo T s = andThen (applyAt w (s.setQueue q)) (sampleTo T) := by
  rw [sampleTo, hq, List.length_cons, drainDue_of_due hq hw, andThen_assoc]
  refine andThen_congr fun t ht => ?_
  have hlen : q.length = t.queue.length := congrArg List.length (applyAt_queue ht).symm
  rw [hlen, sampleTo]

/-! ## What a sample keeps, and its completion from an ordered queue (R165) -/

/-- The fields that neither the chip cycles nor the bytes of a sample write. -/
structure SequencerKeeps (s t : State) : Prop where
  params : t.params = s.params
  cfg : t.cfg = s.cfg
  built : t.built = s.built
  atten : t.atten = s.atten
  warn : t.warn = s.warn
  rem : t.rem = s.rem
  ops : t.ops = s.ops
  samples : t.samples = s.samples

theorem SequencerKeeps.trans {s t u : State} (a : SequencerKeeps s t) (b : SequencerKeeps t u) :
    SequencerKeeps s u where
  params := b.params.trans a.params
  cfg := b.cfg.trans a.cfg
  built := b.built.trans a.built
  atten := b.atten.trans a.atten
  warn := b.warn.trans a.warn
  rem := b.rem.trans a.rem
  ops := b.ops.trans a.ops
  samples := b.samples.trans a.samples

theorem setQueue_sequencerKeeps (s : State) (q : List PendingWrite) : SequencerKeeps s (s.setQueue q) :=
  ⟨rfl, rfl, rfl, rfl, rfl, rfl, rfl, rfl⟩

theorem SameButRegisters.sequencerKeeps {s t : State} (h : SameButRegisters s t) : SequencerKeeps s t :=
  ⟨h.params, h.cfg, h.built, h.atten, h.warn, h.rem, h.ops, h.samples⟩

theorem advance_setCycle_sequencerKeeps (n T : Nat) (s : State) : SequencerKeeps s ((advance n s).setCycle T) :=
  have h := advance_same n s
  ⟨h.params, h.cfg, h.built, h.atten, h.warn, h.rem, h.ops, h.samples⟩

/-- An entry not stamped below the current cycle is applied at its own cycle. -/
theorem applyAt_next {w : PendingWrite} {s : State} (hb : s.built = true) (hc : s.cycle ≤ w.target) :
    ∃ t, applyAt w s = .next t ∧ SequencerKeeps s t ∧ t.cycle = w.target := by
  have hgap := advance_setCycle_sequencerKeeps (w.target - s.cycle) w.target s
  obtain ⟨t, ht, happ⟩ := applyByte_next (hgap.built.trans hb) w.byte
  refine ⟨t, ?_, hgap.trans happ.sequencerKeeps, happ.cycle⟩
  rw [applyAt, advanceTo_of_le hc, andThen_next, ht]

theorem finishSample_next {T : Nat} {s : State} (hT : s.cycle ≤ T) :
    ∃ u, finishSample T s = .next (u.pushSample (mix u)) ∧ SequencerKeeps s u ∧ u.cycle = T := by
  refine ⟨(advance (T - s.cycle) s).setCycle T, ?_, advance_setCycle_sequencerKeeps _ T s, rfl⟩
  rw [finishSample, advanceTo_of_le hT, andThen_next]

/-- Once the head has been taken off at its own cycle, R73 holds of the entries behind it. -/
theorem queueOrdered_of_tail {s t : State} {w : PendingWrite} {q : List PendingWrite} (h : QueueOrdered s)
    (hq : s.queue = w :: q) (htq : t.queue = q) (htc : t.cycle = w.target) : QueueOrdered t := by
  obtain ⟨hpair, -⟩ := h
  rw [hq, List.pairwise_cons] at hpair
  obtain ⟨hhead, htail⟩ := hpair
  rw [QueueOrdered, htq, htc]
  exact ⟨htail, hhead⟩

/-- R165: the sequencer completes from an ordered queue and ends at the sample's target cycle. -/
theorem sampleTo_next {T : Nat} {s : State} (hb : s.built = true) (ho : QueueOrdered s) (hT : s.cycle ≤ T) :
    ∃ u, sampleTo T s = .next (u.pushSample (mix u)) ∧ SequencerKeeps s u ∧ u.cycle = T := by
  generalize hq : s.queue = q
  induction q generalizing s with
  | nil =>
    rw [sampleTo_of_not_due (by rw [State.headDue, hq])]
    exact finishSample_next hT
  | cons w q ih =>
    by_cases hw : w.target ≤ T
    · have hc : s.cycle ≤ w.target := ho.2 w (hq ▸ List.mem_cons_self)
      obtain ⟨t, ht, hkeep, htc⟩ := applyAt_next (s := s.setQueue q) hb hc
      have htq : t.queue = q := applyAt_queue ht
      obtain ⟨u, hu, hkeep', huc⟩ :=
        ih (hkeep.built.trans hb) (queueOrdered_of_tail ho hq htq htc) (htc.le.trans hw) htq
      refine ⟨u, ?_, ((setQueue_sequencerKeeps s q).trans hkeep).trans hkeep', huc⟩
      rw [sampleTo_of_due hq hw, ht, andThen_next, hu]
    · rw [sampleTo_of_not_due (headDue_eq_false_of_lt hq (by omega))]
      exact finishSample_next hT

theorem generateSample_next {s : State} (hb : s.built = true) (ho : QueueOrdered s) :
    ∃ u, generateSample s = .next (u.pushSample (mix u)) ∧ SequencerKeeps (rateStep s) u ∧
      u.cycle = s.cycle + rateCycles s :=
  sampleTo_next (s := rateStep s) hb ho (Nat.le_add_right ..)

/-- Settles O38: with R73 the sequencer completes; without it the first round's gap is negative. -/
theorem negativeGapFaults : Obligations.NegativeGapFaults := by
  refine ⟨fun s f ho hf => ?_, fun s w q hb hq hlt => ?_⟩
  · cases hb : s.built
    · cases (whenBuilt_of_unbuilt hb _).symm.trans hf
    · obtain ⟨u, hu, -⟩ := generateSample_next hb ho
      cases hu.symm.trans ((whenBuilt_of_built hb _).symm.trans hf)
  · have hdue : w.target ≤ s.cycle + rateCycles s := by omega
    have hgap : advanceTo w.target ((rateStep s).setQueue q) = .fault .negativeGap := advanceTo_of_lt hlt
    refine (whenBuilt_of_built hb _).trans ?_
    rw [generateSample, sampleTo_of_due (s := rateStep s) hq hdue, applyAt, hgap]
    rfl

/-! ## No drift over many samples (R162) -/

/-- In an ordered queue everything behind the entries due at `T` is stamped above `T`. -/
theorem lt_of_mem_dropWhile {T : Nat} {q : List PendingWrite} (hq : q.Pairwise fun a b => a.target ≤ b.target)
    {w : PendingWrite} (hw : w ∈ q.dropWhile fun v => decide (v.target ≤ T)) : T < w.target := by
  induction q with
  | nil => cases hw
  | cons v q ih =>
    obtain ⟨hhead, htail⟩ := List.pairwise_cons.1 hq
    by_cases hv : v.target ≤ T
    · rw [List.dropWhile_cons_of_pos (by simpa using hv)] at hw
      exact ih htail hw
    · rw [List.dropWhile_cons_of_neg (by simpa using hv)] at hw
      obtain rfl | hmem := List.mem_cons.1 hw
      · omega
      · have := hhead w hmem
        omega

/-- R73 holds again after a sample. -/
theorem queueOrdered_generateSample {s t : State} (ho : QueueOrdered s) (h : generateSample s = .next t)
    (hc : t.cycle = s.cycle + rateCycles s) : QueueOrdered t := by
  have hq := generateSample_queue h
  refine ⟨hq ▸ ho.1.sublist (List.dropWhile_suffix _).sublist, fun w hw => ?_⟩
  rw [hq] at hw
  exact hc.le.trans (lt_of_mem_dropWhile ho.1 hw).le

/-- The cycles and the remainder of one sample and of the `n` samples after it add up to those of `n + 1`. -/
theorem rateStep_then_rates (s : State) (hpos : 0 < s.cfg.sampleRate) (n : Nat) :
    rateCycles s + ((rateStep s).rem + n * s.cfg.clockRate) / s.cfg.sampleRate =
        (s.rem + (n + 1) * s.cfg.clockRate) / s.cfg.sampleRate ∧
      ((rateStep s).rem + n * s.cfg.clockRate) % s.cfg.sampleRate =
        (s.rem + (n + 1) * s.cfg.clockRate) % s.cfg.sampleRate := by
  have htotal : s.rem + (n + 1) * s.cfg.clockRate =
      (rateStep s).rem + n * s.cfg.clockRate + rateCycles s * s.cfg.sampleRate := by
    have := rateCycles_mul_add_rem s
    rw [Nat.succ_mul]
    omega
  rw [htotal, Nat.add_mul_div_right _ _ hpos, Nat.add_mul_mod_self_right]
  exact ⟨Nat.add_comm .., rfl⟩

/-- R162 from any remainder below the sample rate. -/
theorem generateSamples_next {n : Nat} {s : State} (hb : s.built = true) (ho : QueueOrdered s)
    (hr : s.rem < s.cfg.sampleRate) :
    ∃ t, generateSamples n s = .next t ∧
      t.cycle = s.cycle + (s.rem + n * s.cfg.clockRate) / s.cfg.sampleRate ∧
      t.rem = (s.rem + n * s.cfg.clockRate) % s.cfg.sampleRate := by
  induction n generalizing s with
  | zero =>
    refine ⟨s, rfl, ?_, ?_⟩
    · rw [Nat.zero_mul, Nat.add_zero, Nat.div_eq_of_lt hr, Nat.add_zero]
    · rw [Nat.zero_mul, Nat.add_zero, Nat.mod_eq_of_lt hr]
  | succ n ih =>
    obtain ⟨u, hu, hkeep, huc⟩ := generateSample_next hb ho
    have hpos : 0 < s.cfg.sampleRate := Nat.zero_lt_of_lt hr
    have hcfg : u.cfg = s.cfg := hkeep.cfg
    have hrem : u.rem < u.cfg.sampleRate := by
      rw [hkeep.rem, hcfg, rateStep_rem]
      exact Nat.mod_lt _ hpos
    obtain ⟨t, ht, hcycle, htrem⟩ := ih (s := u.pushSample (mix u)) (hkeep.built.trans hb)
      (queueOrdered_generateSample ho hu huc) hrem
    obtain ⟨hdiv, hmod⟩ := rateStep_then_rates s hpos n
    simp only [State.pushSample_cycle, State.pushSample_rem, State.pushSample_cfg, hcfg, huc, hkeep.rem]
      at hcycle htrem
    refine ⟨t, ?_, ?_, htrem.trans hmod⟩
    · rw [generateSamples, hu, andThen_next, ht]
    · rw [hcycle, Nat.add_assoc, hdiv]

/-- Settles O34: N RateSteps are one division of N times the clock rate. -/
theorem rateConversionHasNoDrift : Obligations.RateConversionHasNoDrift := by
  intro s N hb hpos hrem ho
  have h := generateSamples_next (n := N) hb ho (by omega)
  rw [hrem, Nat.zero_add] at h
  obtain ⟨t, ht, hcycle, htrem⟩ := h
  exact ⟨t, (whenBuilt_of_built hb _).trans ht, hcycle, htrem⟩

/-! ## Bytes with one target (R166) -/

/-- A byte is applied to the state as its gap leaves it, whatever queue stands behind it. -/
theorem applyAt_setQueue {s : State} {w : PendingWrite} (hc : s.cycle ≤ w.target) (q : List PendingWrite) :
    applyAt w (s.setQueue q) =
      applyByte w.byte (((advance (w.target - s.cycle) s).setCycle w.target).setQueue q) := by
  rw [applyAt, advanceTo_of_le (s := s.setQueue q) hc, andThen_next, State.setQueue_cycle, advance_setQueue]
  rfl

/-- After the first byte the current cycle is the second byte's target, so its gap is empty. -/
theorem sampleTo_of_equal_targets {s : State} {w v : PendingWrite} {q : List PendingWrite} {T : Nat}
    (hq : s.queue = w :: v :: q) (htarget : w.target = v.target) (hc : s.cycle ≤ w.target) (hT : w.target ≤ T) :
    sampleTo T s =
      andThen (applyByte w.byte (((advance (w.target - s.cycle) s).setCycle w.target).setQueue q))
        fun u => andThen (applyByte v.byte u) (sampleTo T) := by
  rw [sampleTo_of_due hq hT, applyAt_setQueue hc, applyByte_setQueue, applyByte_setQueue _ _ q, andThen_assoc,
    andThen_assoc]
  refine andThen_congr fun t ht => ?_
  have hcycle : v.target = t.cycle := by
    rw [applyByte_eq_exec] at ht
    exact htarget.symm.trans (exec_command_sameButRegisters (decodeByte_isCommand ..) ht).cycle.symm
  rw [andThen_next, andThen_next, sampleTo_of_due (s := t.setQueue (v :: q)) rfl (htarget ▸ hT)]
  exact congrArg (andThen · _) (applyAt_of_target_eq (s := t.setQueue q) hcycle)

/-- R191: the target cycle that WRITE stamps. -/
def writeStamp (s : State) : Nat := s.cycle + s.params.writeLatency

theorem exec_write_next {s : State} (hb : s.built = true) (b : Byte) :
    exec (.write b) s = .next (s.enqueue (pendingWrite b (writeStamp s))) :=
  whenBuilt_of_built hb _

/-- A WRITE moves neither the cycle nor the latency, so the next one stamps the same target. -/
theorem runAll_write_write {s : State} (hb : s.built = true) (b c : Byte) :
    runAll [.write b, .write c] s =
      .next ((s.enqueue (pendingWrite b (writeStamp s))).enqueue (pendingWrite c (writeStamp s))) := by
  have hsecond := exec_write_next (s := s.enqueue (pendingWrite b (writeStamp s))) hb c
  rw [runAll, exec_write_next hb b, andThen_next, runAll, hsecond]
  rfl

/-- Settles O39: the second byte's gap is empty, and back-to-back WRITEs stamp one target. -/
theorem equalStampsApplyBackToBack : Obligations.EqualStampsApplyBackToBack :=
  ⟨fun _ _ _ _ _ hq htarget hc hT _ => sampleTo_of_equal_targets hq htarget hc hT,
    fun _ b c hb => ⟨_, _, _, runAll_write_write hb b c, List.append_assoc .., rfl, rfl, rfl⟩⟩

/-! ## A sample is its chip cycles one by one (R167) -/

/-- A block with every byte applied that is due by the current cycle. -/
structure Settled (s : State) : Prop where
  built : s.built = true
  ordered : s.queue.Pairwise fun a b => a.target ≤ b.target
  later : ∀ w ∈ s.queue, s.cycle < w.target

theorem Settled.queueOrdered_nextCycle {s : State} (h : Settled s) : QueueOrdered (nextCycle s) := by
  rw [QueueOrdered, nextCycle_queue]
  exact ⟨h.ordered, h.later⟩

theorem applyAllDue_of_not_due {s : State} (h : s.headDue s.cycle = false) : applyAllDue s = .next s := by
  have hnone : (s.queue.takeWhile fun w => decide (w.target ≤ s.cycle)) = [] ∧
      (s.queue.dropWhile fun w => decide (w.target ≤ s.cycle)) = s.queue := by
    cases hq : s.queue with
    | nil => exact ⟨rfl, rfl⟩
    | cons w q =>
      rw [State.headDue, hq] at h
      have hw : ¬ decide (w.target ≤ s.cycle) = true := ne_true_of_eq_false h
      exact ⟨List.takeWhile_cons_of_neg hw, List.dropWhile_cons_of_neg hw⟩
  obtain ⟨htake, hdrop⟩ := hnone
  rw [applyAllDue, htake, hdrop]
  rfl

/-- A due head is applied first, and then what is due behind it. -/
theorem applyAllDue_of_due {s u : State} {w : PendingWrite} {q : List PendingWrite} (hq : s.queue = w :: q)
    (hw : w.target ≤ s.cycle) (hu : applyByte w.byte (s.setQueue q) = .next u) (huq : u.queue = q)
    (huc : u.cycle = s.cycle) : applyAllDue s = applyAllDue u := by
  have hdue : decide (w.target ≤ s.cycle) = true := decide_eq_true hw
  have hfirst : ∀ p, applyByte w.byte (s.setQueue p) = .next (u.setQueue p) := fun p =>
    (applyByte_setQueue w.byte (s.setQueue q) p).trans (by rw [hu, andThen_next])
  simp only [applyAllDue, hq, List.takeWhile_cons, List.dropWhile_cons, hdue, if_true, List.foldl_cons,
    andThen_next, hfirst, huq, huc]

/-- The bytes due at the current cycle are the first rounds of a sample that ends there or later. -/
theorem applyAllDue_next {s : State} (hb : s.built = true) (ho : QueueOrdered s) :
    ∃ t, applyAllDue s = .next t ∧ Settled t ∧ t.cycle = s.cycle ∧
      ∀ T, s.cycle ≤ T → sampleTo T s = sampleTo T t := by
  generalize hq : s.queue = q
  induction q generalizing s with
  | nil =>
    exact ⟨s, applyAllDue_of_not_due (by rw [State.headDue, hq]), ⟨hb, ho.1, by simp [hq]⟩, rfl, fun _ _ => rfl⟩
  | cons w q ih =>
    have hc : s.cycle ≤ w.target := ho.2 w (hq ▸ List.mem_cons_self)
    by_cases hw : w.target ≤ s.cycle
    · have hnow : w.target = s.cycle := le_antisymm hw hc
      obtain ⟨u, hu, hkeep⟩ := applyByte_next (s := s.setQueue q) hb w.byte
      obtain ⟨t, ht, hsettled, htc, hsample⟩ := ih (hkeep.built.trans hb)
        (queueOrdered_of_tail ho hq hkeep.queue (hkeep.cycle.trans hnow.symm)) hkeep.queue
      refine ⟨t, (applyAllDue_of_due hq hw hu hkeep.queue hkeep.cycle).trans ht, hsettled,
        htc.trans hkeep.cycle, fun T hT => ?_⟩
      rw [sampleTo_of_due hq (hw.trans hT), applyAt_of_target_eq (s := s.setQueue q) hnow, hu, andThen_next]
      exact hsample T (hkeep.cycle.le.trans hT)
    · have hlater : ∀ v ∈ s.queue, s.cycle < v.target := fun v hv => by
        refine lt_of_mem_dropWhile (T := s.cycle) ho.1 ?_
        rwa [hq, List.dropWhile_cons_of_neg (by simpa using hw), ← hq]
      exact ⟨s, applyAllDue_of_not_due (headDue_eq_false_of_lt hq (by omega)), ⟨hb, ho.1, hlater⟩, rfl,
        fun _ _ => rfl⟩

/-- From a settled block one chip cycle may be passed by itself before the sample goes on. -/
theorem sampleTo_nextCycle {T : Nat} {s : State} (h : Settled s) (hT : s.cycle < T) :
    sampleTo T (nextCycle s) = sampleTo T s := by
  cases hd : s.headDue T
  · have hd' : (nextCycle s).headDue T = false := by rw [State.headDue, nextCycle_queue]; exact hd
    rw [sampleTo_of_not_due hd, sampleTo_of_not_due hd', finishSample, finishSample, advanceTo_nextCycle hT]
  · obtain ⟨w, q, hq, hw⟩ := headDue_eq_true.1 hd
    have hlt : s.cycle < w.target := h.later w (hq ▸ List.mem_cons_self)
    rw [sampleTo_of_due hq hw, sampleTo_of_due ((nextCycle_queue s).trans hq) hw, ← nextCycle_setQueue, applyAt,
      applyAt, advanceTo_nextCycle (s := s.setQueue q) hlt]

/-- At its target cycle a settled block has the mix left to do. -/
theorem sampleTo_of_settled {s : State} (h : Settled s) : sampleTo s.cycle s = .next (s.pushSample (mix s)) := by
  have hd : s.headDue s.cycle = false := by
    cases hq : s.queue with
    | nil => rw [State.headDue, hq]
    | cons w q => exact headDue_eq_false_of_lt hq (h.later w (hq ▸ List.mem_cons_self))
  rw [sampleTo_of_not_due hd, finishSample, advanceTo_self rfl, andThen_next]

/-- R164 against R83 and R167: the sequencer's gaps are their chip cycles one by one. -/
theorem sampleTo_eq_cycleByCycle (n : Nat) {s : State} (hb : s.built = true) (ho : QueueOrdered s) :
    sampleTo (s.cycle + n) s = andThen (cycleByCycle n s) fun u => .next (u.pushSample (mix u)) := by
  induction n generalizing s with
  | zero =>
    obtain ⟨t, ht, hsettled, htc, hsample⟩ := applyAllDue_next hb ho
    rw [cycleByCycle, ht, andThen_next, hsample _ le_self_add, Nat.add_zero, ← htc, sampleTo_of_settled hsettled]
  | succ n ih =>
    obtain ⟨t, ht, hsettled, htc, hsample⟩ := applyAllDue_next hb ho
    have hlast : s.cycle + (n + 1) = (nextCycle t).cycle + n := by rw [nextCycle_cycle]; omega
    rw [cycleByCycle_succ, ht, andThen_next,
      ← ih (s := nextCycle t) ((nextCycle_built t).trans hsettled.built) hsettled.queueOrdered_nextCycle, ← hlast,
      sampleTo_nextCycle hsettled (by omega), hsample _ (by omega)]

/-- Settles O36: the sequencer after the rate step is its chip cycles one by one. -/
theorem sampleIsCycleByCycle : Obligations.SampleIsCycleByCycle := fun s hb ho =>
  (whenBuilt_of_built hb _).trans (sampleTo_eq_cycleByCycle (rateCycles s) (s := rateStep s) hb ho)

end Sys2Proof.Machine
end

section
/-! PROOFS. The host operations (spec/43_host_operations.md R190 to R196): what one sample ends in whenever it answers,
repeated samples, and which operations are refused. -/

namespace Sys2Proof.Machine

/-! ## What a sample that answers has kept (R192) -/

theorem SequencerKeeps.refl (s : State) : SequencerKeeps s s := ⟨rfl, rfl, rfl, rfl, rfl, rfl, rfl, rfl⟩

section Answers

variable {s t : State}

theorem advanceTo_answer {T : Nat} (h : advanceTo T s = .next t) : SequencerKeeps s t ∧ t.cycle = T := by
  obtain ⟨-, ht⟩ := advanceTo_eq_next.1 h
  rw [ht]
  exact ⟨advance_setCycle_sequencerKeeps .., rfl⟩

theorem applyByte_sequencerKeeps {b : Byte} (h : applyByte b s = .next t) : SequencerKeeps s t := by
  rw [applyByte_eq_exec] at h
  exact (exec_command_sameButRegisters (decodeByte_isCommand ..) h).sequencerKeeps

theorem applyAt_sequencerKeeps {w : PendingWrite} (h : applyAt w s = .next t) : SequencerKeeps s t := by
  obtain ⟨u, hu, ht⟩ := andThen_eq_next.1 h
  exact (advanceTo_answer hu).1.trans (applyByte_sequencerKeeps ht)

theorem drainDue_sequencerKeeps {fuel T : Nat} (h : drainDue fuel T s = .next t) : SequencerKeeps s t := by
  induction fuel generalizing s with
  | zero => cases h; exact .refl _
  | succ n ih =>
    cases hd : s.headDue T
    · rw [drainDue_of_not_due hd] at h
      cases h; exact .refl _
    · obtain ⟨w, q, hq, hw⟩ := headDue_eq_true.1 hd
      rw [drainDue_of_due hq hw] at h
      obtain ⟨u, hu, ht⟩ := andThen_eq_next.1 h
      exact ((setQueue_sequencerKeeps s q).trans (applyAt_sequencerKeeps hu)).trans (ih ht)

/-- Every answer of a sample, from whatever queue, is the mix of a state at the target cycle. -/
theorem generateSample_answer (h : generateSample s = .next t) :
    ∃ u, t = u.pushSample (mix u) ∧ SequencerKeeps (rateStep s) u ∧ u.cycle = s.cycle + rateCycles s := by
  obtain ⟨v, hv, hfinish⟩ := andThen_eq_next.1 h
  obtain ⟨u, hu, ht⟩ := andThen_eq_next.1 hfinish
  cases ht
  obtain ⟨hkeep, hcycle⟩ := advanceTo_answer hu
  exact ⟨u, rfl, (drainDue_sequencerKeeps hv).trans hkeep, hcycle⟩

theorem generateSample_built (h : generateSample s = .next t) : t.built = s.built := by
  obtain ⟨u, rfl, hkeep, -⟩ := generateSample_answer h
  exact hkeep.built

theorem generateSamples_built {n : Nat} (h : generateSamples n s = .next t) : t.built = s.built := by
  induction n generalizing s with
  | zero => cases h; rfl
  | succ n ih =>
    obtain ⟨u, hu, ht⟩ := andThen_eq_next.1 h
    exact (ih ht).trans (generateSample_built hu)

/-- R192's frame as an equation: the state written, and every other field as it was. -/
theorem SequencerKeeps.eq_with (h : SequencerKeeps s t) :
    t = { s with
      tone0 := t.tone0, tone1 := t.tone1, tone2 := t.tone2, noise := t.noise, latch := t.latch, presc := t.presc
      queue := t.queue, cycle := t.cycle, rem := t.rem, samples := t.samples } := by
  rw [← h.params, ← h.cfg, ← h.built, ← h.atten, ← h.warn, ← h.ops]

end Answers

/-! ## One sample (R164, R192) -/

theorem exec_generateSample {s : State} (hb : s.built = true) : exec .generateSample s = generateSample s :=
  whenBuilt_of_built hb _

theorem headDue_eq_false_of_all_later {T : Nat} {s : State} (h : ∀ w ∈ s.queue, T < w.target) :
    s.headDue T = false := by
  cases hq : s.queue with
  | nil => rw [State.headDue, hq]
  | cons w q => exact headDue_eq_false_of_lt hq (h w (hq ▸ List.mem_cons_self))

/-- With no write due a sample is the rate step, the advance and the mix. -/
theorem generateSample_of_all_later {s u : State} (h : ∀ w ∈ s.queue, s.cycle + rateCycles s < w.target)
    (hu : u = advance (rateCycles s) (rateStep s)) :
    generateSample s = .next ((u.setCycle (s.cycle + rateCycles s)).pushSample (mix u)) := by
  have hT : (rateStep s).cycle ≤ s.cycle + rateCycles s := Nat.le_add_right ..
  have hgap : s.cycle + rateCycles s - (rateStep s).cycle = rateCycles s := Nat.add_sub_cancel_left ..
  rw [generateSample, sampleTo_of_not_due (headDue_eq_false_of_all_later (s := rateStep s) h), finishSample,
    advanceTo_of_le hT, hgap, ← hu]
  rfl

/-- Settles O35: an ordered queue lets the sequencer complete, and with no write due it only advances. -/
theorem generateSampleCompletes : Obligations.GenerateSampleCompletes := by
  rintro s T hb ho rfl
  obtain ⟨v, hv, hkeep, hcycle⟩ := generateSample_next hb ho
  refine ⟨v.pushSample (mix v), (exec_generateSample hb).trans hv, hcycle, hkeep.rem, generateSample_queue hv,
    congrArg (· ++ [mix v]) hkeep.samples, congrArg (·.pushSample (mix v)) hkeep.eq_with, fun hlater => ?_⟩
  obtain ⟨u, hu⟩ : ∃ u, u = advance (rateCycles s) (rateStep s) := ⟨_, rfl⟩
  have hsame : SameButChannels (rateStep s) u := hu ▸ advance_same ..
  have hsamples : u.samples = s.samples := hsame.samples
  rw [Host.Outcome.next.inj (hv.symm.trans (generateSample_of_all_later hlater hu)), ← hsamples]
  exact ⟨u, hu, rfl, hsame.latch, fun i => ⟨hsame.period i, hsame.vol i⟩⟩

/-! ## Repeated samples (R193) -/

theorem exec_generateSamples {s : State} (hb : s.built = true) (n : Nat) :
    exec (.generateSamples n) s = generateSamples n s :=
  whenBuilt_of_built hb _

theorem generateSamples_one (s : State) : generateSamples 1 s = generateSample s := andThen_next_right _

theorem generateSamples_add (a b : Nat) (s : State) :
    generateSamples (a + b) s = andThen (generateSamples a s) (generateSamples b) := by
  induction a generalizing s with
  | zero => rw [Nat.zero_add]; rfl
  | succ a ih =>
    rw [Nat.succ_add, generateSamples, generateSamples, andThen_assoc]
    exact andThen_congr fun t _ => ih t

/-- Settles O46: the count splits as the recursion does, and the block still exists after the first part. -/
theorem generateSamplesRepeats : Obligations.GenerateSamplesRepeats := by
  intro s hb
  refine ⟨exec_generateSamples hb 0, ?_, fun a b => ?_⟩
  · rw [exec_generateSamples hb, generateSamples_one, exec_generateSample hb]
  · rw [exec_generateSamples hb, exec_generateSamples hb, generateSamples_add]
    exact andThen_congr fun t ht => (exec_generateSamples ((generateSamples_built ht).trans hb) b).symm

/-! ## WRITE (R191) -/

/-- Settles O45: the entry is R71's for the byte and the stamp. -/
theorem writeQueuesTheByte : Obligations.WriteQueuesTheByte := fun _ b hb => exec_write_next hb b

/-! ## Which operations answer (R190, R196) -/

theorem exec_construct_of_rates {c r : Int} (hc : 1 ≤ c) (hr : 1 ≤ r) (w : Int) (s : State) :
    exec (.construct c r w) s =
      .next (resetRegisters
        (((s.configure { clockRate := c.toNat, sampleRate := r.toNat, tap := tapOfWidth w }).setCycle 0).setRem 0)) :=
  if_neg (by omega)

theorem exec_construct_refused {c r : Int} (h : c < 1 ∨ r < 1) (w : Int) (s : State) :
    exec (.construct c r w) s = .refused .rateBelowOne :=
  if_pos h

section Operations

variable {s : State} {op : HostOp}

/-- R196: on a block that meets the invariant every operation but CONSTRUCT answers next. -/
theorem exec_operation_next (hop : ¬ ∃ c r w, op = .construct c r w) (hb : s.built = true) (hinv : BlockInv s) :
    ∃ t, exec op.toInstr s = .next t := by
  cases op with
  | construct c r w => exact absurd ⟨c, r, w, rfl⟩ hop
  | write b => exact ⟨_, exec_write_next hb b⟩
  | generateSample =>
    obtain ⟨u, hu, -⟩ := generateSample_next hb hinv.queue_ordered
    exact ⟨_, (exec_generateSample hb).trans hu⟩
  | generateSamples n =>
    obtain ⟨t, ht, -⟩ := generateSamples_next (n := n) hb hinv.queue_ordered hinv.rem_lt
    exact ⟨t, (exec_generateSamples hb n).trans ht⟩
  | reset => exact ⟨_, whenBuilt_of_built hb _⟩

/-- R196: before CONSTRUCT every other operation is refused. -/
theorem exec_operation_beforeConstruct (hop : ¬ ∃ c r w, op = .construct c r w) (hb : s.built = false) :
    exec op.toInstr s = .refused .beforeConstruct := by
  cases op with
  | construct c r w => exact absurd ⟨c, r, w, rfl⟩ hop
  | write b => exact whenBuilt_of_unbuilt hb _
  | generateSample => exact whenBuilt_of_unbuilt hb _
  | generateSamples n => exact whenBuilt_of_unbuilt hb _
  | reset => exact whenBuilt_of_unbuilt hb _

end Operations

/-- Settles O55: the block's existence decides for four operations, the rates for CONSTRUCT. -/
theorem operationsAreTotalAfterConstruct : Obligations.OperationsAreTotalAfterConstruct := by
  intro s op hinv
  refine ⟨fun hop => ⟨fun hb => exec_operation_next hop hb (hinv.block hb), exec_operation_beforeConstruct hop⟩, ?_⟩
  rintro c r w rfl
  exact ⟨fun hc hr => ⟨_, exec_construct_of_rates hc hr w s⟩, fun h => exec_construct_refused h w s⟩

end Sys2Proof.Machine
end

section
/-! PROOFS. Reset and the writes still queued before it (spec/70_reset_and_hazards.md R231, R234): a RESET and a
CONSTRUCT end in one block, read off the configuration alone, and what waits in the queue is not part of it. -/

namespace Sys2Proof.Machine

section

variable {s t : State}

/-! ## The block that a reset leaves (R231) -/

/-- R231's "initialised state only": the reset state on the configuration of `s`, with the ends of its host
interface. -/
def freshBlock (s : State) : State :=
  { State.reset with
    params := s.params, cfg := s.cfg, atten := s.atten, warn := s.warn, ops := s.ops, samples := s.samples }

theorem exec_reset_next (hb : s.built = true) : exec .reset s = .next (resetRegisters s) :=
  whenBuilt_of_built hb _

/-- The timing registers aside, a reset leaves the fresh block. -/
theorem resetRegisters_eq_freshBlock_with (hb : s.built = true) :
    resetRegisters s =
      { freshBlock s with cycle := (resetRegisters s).cycle, rem := (resetRegisters s).rem } := by
  rw [resetRegisters, hb]
  rfl

theorem resetRegisters_eq_freshBlock (hb : s.built = true) (hcycle : (resetRegisters s).cycle = 0)
    (hrem : (resetRegisters s).rem = 0) : resetRegisters s = freshBlock s := by
  rw [resetRegisters_eq_freshBlock_with hb, hcycle, hrem]
  rfl

theorem resetRegisters_timing_of_clears (h : s.params.resetClearsTiming = true) :
    (resetRegisters s).cycle = 0 ∧ (resetRegisters s).rem = 0 :=
  ⟨if_pos h, if_pos h⟩

theorem resetRegisters_timing_of_keeps (h : s.params.resetClearsTiming = false) :
    (resetRegisters s).cycle = s.cycle ∧ (resetRegisters s).rem = s.rem :=
  ⟨if_neg (ne_true_of_eq_false h), if_neg (ne_true_of_eq_false h)⟩

theorem resetRegisters_timing_of_zero (hcycle : s.cycle = 0) (hrem : s.rem = 0) :
    (resetRegisters s).cycle = 0 ∧ (resetRegisters s).rem = 0 := by
  cases h : s.params.resetClearsTiming
  · obtain ⟨hcycle', hrem'⟩ := resetRegisters_timing_of_keeps h
    exact ⟨hcycle'.trans hcycle, hrem'.trans hrem⟩
  · exact resetRegisters_timing_of_clears h

/-! ## The block that CONSTRUCT leaves (R190) -/

/-- CONSTRUCT zeroes the timing registers before the reset it ends in. -/
theorem exec_construct_answer {c r w : Int} (h : exec (.construct c r w) s = .next t) :
    ∃ u, u.built = true ∧ u.cycle = 0 ∧ u.rem = 0 ∧ t = resetRegisters u := by
  by_cases hrate : c < 1 ∨ r < 1
  · rw [exec_construct_refused hrate] at h
    cases h
  · rw [exec_construct_of_rates (by omega) (by omega)] at h
    exact ⟨_, rfl, rfl, rfl, (Host.Outcome.next.inj h).symm⟩

/-- So its answer is fresh under either value of `RESET_CLEARS_TIMING`. -/
theorem exec_construct_fresh {c r w : Int} (h : exec (.construct c r w) s = .next t) : freshBlock t = t := by
  obtain ⟨u, hb, hcycle, hrem, rfl⟩ := exec_construct_answer h
  obtain ⟨hcycle', hrem'⟩ := resetRegisters_timing_of_zero hcycle hrem
  exact (resetRegisters_eq_freshBlock hb hcycle' hrem').symm

end

/-- Settles O48: both operations leave the fresh block of the configuration. -/
theorem resetEqualsFreshConstruct : Obligations.ResetEqualsFreshConstruct := by
  constructor
  · intro s hb
    exact ⟨resetRegisters s, exec_reset_next hb, resetRegisters_eq_freshBlock_with hb,
      resetRegisters_timing_of_keeps, resetRegisters_timing_of_clears⟩
  · intro s0 s1 s c r w hconstruct hparams hcfg hatten hwarn hb hclears
    obtain ⟨hcycle, hrem⟩ := resetRegisters_timing_of_clears (hparams ▸ hclears)
    have hsame : freshBlock s = { freshBlock s1 with ops := s.ops, samples := s.samples } := by
      rw [freshBlock, hparams, hcfg, hatten, hwarn]
      rfl
    rw [exec_reset_next hb, resetRegisters_eq_freshBlock hb hcycle hrem, hsame, exec_construct_fresh hconstruct]

/-! ## Writes before a reset (R75, R234) -/

/-- A reset does not read the queue, so a byte that waits there makes no difference to it. -/
theorem exec_reset_enqueue (s : State) (w : PendingWrite) : exec .reset (s.enqueue w) = exec .reset s := rfl

/-- Settles O49, by induction on the bytes: each WRITE only queues its byte. -/
theorem resetDiscardsPendingWrites : Obligations.ResetDiscardsPendingWrites := by
  intro s bytes hb
  induction bytes generalizing s with
  | nil => exact andThen_next_right _
  | cons b bytes ih =>
    rw [List.map_cons, List.cons_append, runAll, exec_write_next hb, andThen_next, ih (s.enqueue _) hb,
      exec_reset_enqueue]

end Sys2Proof.Machine
end

section
/-! PROOFS. Encoding and decoding back (spec/30_encoding.md R100, R101): a form's own byte stands in R100's table for
that form. -/

namespace Sys2Proof.Machine

/-! ## The operand fields of an encoded byte -/

theorem low4_append (high d : BitVec 4) : low4 (high ++ d) = d := BitVec.extractLsb'_append_eq_right

theorem low6_append (high : BitVec 2) (d : BitVec 6) : low6 (high ++ d) = d := BitVec.extractLsb'_append_eq_right

theorem modeBits_append (high : BitVec 6) (m : PeriodMode) : modeBits (high ++ m) = m :=
  BitVec.extractLsb'_append_eq_right

/-- Bit 2 of a noise control byte carries the type. -/
theorem noiseTypeOfBit_append (high : BitVec 5) (ty : NoiseType) (m : PeriodMode) :
    noiseTypeOfBit ((high ++ noiseTypeBit ty ++ m : Byte).getLsbD 2) = ty := by
  rw [BitVec.getLsbD_append, BitVec.getLsbD_append]
  cases ty <;> rfl

theorem and_mask_of_encode {i : Instr} {b m k : Byte} (h : Laws.RowBytes.Statement i)
    (hrow : tableRow i = some (m, k)) (hb : encode i = [b]) : b &&& k = m := by
  rw [Laws.RowBytes.Statement, hrow] at h
  obtain ⟨c, hc, hmask⟩ := h
  rwa [List.singleton_inj.1 (hb.symm.trans hc)]

section Encoded

variable {lch : Channel} {lvol : Bool}

/-- A form with one four-bit operand in the low nibble of its byte. -/
theorem exists_decodes_encode_nibble {form : BitVec 4 → Instr} {m k : Byte} {high d : BitVec 4}
    (hdec : ∀ b : Byte, b &&& k = m → Decodes lch lvol b (form (low4 b))) (h : Laws.RowBytes.Statement (form d))
    (hrow : tableRow (form d) = some (m, k)) (hb : encode (form d) = [high ++ d]) :
    ∃ b, encode (form d) = [b] ∧ Decodes lch lvol b (form d) := by
  have hd := hdec _ (and_mask_of_encode h hrow hb)
  rw [low4_append] at hd
  exact ⟨_, hb, hd⟩

/-- A form with the noise control's operands in the low three bits of its byte. -/
theorem exists_decodes_encode_control {form : NoiseType → PeriodMode → Instr} {m k : Byte} {high : BitVec 5}
    {ty : NoiseType} {p : PeriodMode}
    (hdec : ∀ b : Byte, b &&& k = m → Decodes lch lvol b (form (noiseTypeOfBit (b.getLsbD 2)) (modeBits b)))
    (h : Laws.RowBytes.Statement (form ty p)) (hrow : tableRow (form ty p) = some (m, k))
    (hb : encode (form ty p) = [high ++ noiseTypeBit ty ++ p]) :
    ∃ b, encode (form ty p) = [b] ∧ Decodes lch lvol b (form ty p) := by
  have hd := hdec _ (and_mask_of_encode h hrow hb)
  rw [noiseTypeOfBit_append, modeBits_append] at hd
  exact ⟨_, hb, hd⟩

/-- R101: the byte a form is encoded to stands in R100's table for that form, in every latch state in which the form
exists. -/
theorem exists_decodes_encode {i : Instr} (hi : i.isCommand = true) (hfit : i.fitsLatch lch lvol = true) :
    ∃ b, encode i = [b] ∧ Decodes lch lvol b i := by
  cases i
  case construct | write | generateSample | generateSamples | reset => cases hi
  case ltp0 d => exact exists_decodes_encode_nibble (fun _ => .ltp0) (Laws.RowBytes.ltp0 d) rfl rfl
  case ltv0 d => exact exists_decodes_encode_nibble (fun _ => .ltv0) (Laws.RowBytes.ltv0 d) rfl rfl
  case ltp1 d => exact exists_decodes_encode_nibble (fun _ => .ltp1) (Laws.RowBytes.ltp1 d) rfl rfl
  case ltv1 d => exact exists_decodes_encode_nibble (fun _ => .ltv1) (Laws.RowBytes.ltv1 d) rfl rfl
  case ltp2 d => exact exists_decodes_encode_nibble (fun _ => .ltp2) (Laws.RowBytes.ltp2 d) rfl rfl
  case ltv2 d => exact exists_decodes_encode_nibble (fun _ => .ltv2) (Laws.RowBytes.ltv2 d) rfl rfl
  case lnv d => exact exists_decodes_encode_nibble (fun _ => .lnv) (Laws.RowBytes.lnv d) rfl rfl
  case lnc ty p => exact exists_decodes_encode_control (fun _ => .lnc) (Laws.RowBytes.lnc ty p) rfl rfl
  all_goals
    simp only [Instr.fitsLatch, Bool.and_eq_true, decide_eq_true_eq, Bool.not_eq_true'] at hfit
    obtain ⟨hch, hvol⟩ := hfit
  case dtp d =>
    have hd := Decodes.dtp (and_mask_of_encode (Laws.RowBytes.dtp d) rfl rfl) hch hvol
    rw [low6_append] at hd
    exact ⟨_, rfl, hd⟩
  case dtv d =>
    exact exists_decodes_encode_nibble (fun _ row => .dtv row hch hvol) (Laws.RowBytes.dtv d) rfl rfl
  case dnv d =>
    exact exists_decodes_encode_nibble (fun _ row => .dnv row hch hvol) (Laws.RowBytes.dnv d) rfl rfl
  case dnc ty p =>
    exact exists_decodes_encode_control (fun _ row => .dnc row hch hvol) (Laws.RowBytes.dnc ty p) rfl rfl

end Encoded

/-- Settles O15: the encoded byte stands in R100's table for the form alone. -/
theorem decodeOfEncodeGivesTheFormBack : Obligations.DecodeOfEncodeGivesTheFormBack := by
  intro i lch lvol rest hi hfit
  obtain ⟨b, hb, hdec⟩ := exists_decodes_encode hi hfit
  rw [hb, List.singleton_append, decode, hdec.decodeByte_eq]

end Sys2Proof.Machine
end

section
/-! PROOFS. Time inside the block (spec/41_channel_tick.md R130 to R147): Advance as a number of ticks, the tone
oscillators' toggles and the noise generator's shifts, each by the recursion of one channel's own tick. -/

namespace Sys2Proof.Machine

/-! ## Advance (R130, R131) -/

theorem advance_eq_iterate (n : Nat) (s : State) : advance n s = advanceCycle^[n] s := by
  induction n generalizing s with
  | zero => rfl
  | succ n ih => exact ih _

theorem advance_advance (a b : Nat) (s : State) : advance b (advance a s) = advance (a + b) s := by
  rw [advance_eq_iterate, advance_eq_iterate, advance_eq_iterate, Nat.add_comm, Function.iterate_add_apply]

theorem advance_succ (n : Nat) (s : State) : advance (n + 1) s = advanceCycle (advance n s) :=
  (advance_advance n 1 s).symm

/-- A chip cycle ticks where the prescaler stands at 1, for the tick does not read it. -/
theorem advanceCycle_setPresc_one (s : State) : advanceCycle (s.setPresc 1) = (tick s).setPresc 16 := rfl

theorem advanceCycle_setPresc {p : Nat} (hp : p ≠ 1) (hp0 : p ≠ 0) (s : State) :
    advanceCycle (s.setPresc p) = s.setPresc (p - 1) := by
  have hp' : ¬ p - 1 = 0 := by omega
  exact if_neg hp'

/-- R131: `16 - presc` chip cycles have passed since the last tick. -/
theorem advance_eq_iterate_tick {s : State} (hpos : 1 ≤ s.presc) (hle : s.presc ≤ 16) (n : Nat) :
    advance n s = (tick^[(16 - s.presc + n) / 16] s).setPresc (16 - (16 - s.presc + n) % 16) := by
  induction n with
  | zero =>
    have hticks : (16 - s.presc + 0) / 16 = 0 := by omega
    have hpresc : 16 - (16 - s.presc + 0) % 16 = s.presc := by omega
    rw [hticks, hpresc]
    rfl
  | succ n ih =>
    rw [advance_succ, ih, ← Nat.add_assoc]
    generalize 16 - s.presc + n = m
    by_cases hm : m % 16 = 15
    · have hticks : (m + 1) / 16 = m / 16 + 1 := by omega
      have hpresc : 16 - (m + 1) % 16 = 16 := by omega
      rw [hm, hticks, hpresc, Function.iterate_succ_apply']
      exact advanceCycle_setPresc_one _
    · have hticks : (m + 1) / 16 = m / 16 := by omega
      have hpresc : 16 - (m + 1) % 16 = 16 - m % 16 - 1 := by omega
      rw [advanceCycle_setPresc (by omega) (by omega), hticks, hpresc]

/-- Settles O21: the closed form by induction on the chip cycles, the additivity as that of iteration. -/
theorem advanceClosedForm : Obligations.AdvanceClosedForm :=
  ⟨fun _ n hpos hle => advance_eq_iterate_tick hpos hle n, fun s a b => advance_advance a b s⟩

/-- From a full prescaler 16 chip cycles are one tick. -/
theorem advance_sixteen_mul {s : State} (hs : s.presc = 16) (n : Nat) :
    advance (16 * n) s = (tick^[n] s).setPresc 16 := by
  have hticks : (16 - s.presc + 16 * n) / 16 = n := by omega
  have hpresc : 16 - (16 - s.presc + 16 * n) % 16 = 16 := by omega
  rw [advance_eq_iterate_tick (by omega) (by omega), hticks, hpresc]

/-- What a tick keeps and the prescaler does not touch, any number of chip cycles keeps. -/
theorem advance_induction {P : State → Prop} (htick : ∀ s, P s → P (tick s))
    (hpresc : ∀ s p, P s → P (s.setPresc p)) {s : State} (hs : P s) (n : Nat) : P (advance n s) := by
  induction n with
  | zero => exact hs
  | succ n ih =>
    rw [advance_succ, advanceCycle]
    split
    · exact hpresc _ _ (htick _ (hpresc _ _ ih))
    · exact hpresc _ _ ih

/-! ## One tone tick (R133) -/

theorem expires_eq_true_iff {c : Count} : expires c = true ↔ c.toNat ≤ 1 := decide_eq_true_iff

theorem count_sub_one_toNat {c : Count} (h : 1 ≤ c.toNat) : (c - 1).toNat = c.toNat - 1 :=
  BitVec.toNat_sub_of_le h

section Tone

variable {t : Tone}

theorem Tone.tick_of_expired (h : t.counter.toNat ≤ 1) (hp : t.period ≠ 0) :
    t.tick = { t with out := !t.out, counter := t.period } := by
  rw [Tone.tick, if_pos (expires_eq_true_iff.2 h), if_pos hp]
  rfl

theorem Tone.tick_of_expired_of_period_zero (h : t.counter.toNat ≤ 1) (hp : t.period = 0) :
    t.tick = { t with counter := 0 } := by
  rw [Tone.tick, if_pos (expires_eq_true_iff.2 h), if_neg (not_not.2 hp)]

theorem Tone.tick_of_running (h : 1 < t.counter.toNat) : t.tick = { t with counter := t.counter - 1 } := by
  rw [Tone.tick, if_neg (fun he => absurd (expires_eq_true_iff.1 he) (by omega))]

end Tone

/-- Settles O23: the three branches of a channel's tick. -/
theorem toneTickCountsDownAndToggles : Obligations.ToneTickCountsDownAndToggles := by
  refine fun s i => ⟨fun h hp => ?_, fun h hp => ?_, fun c hc hpos => ?_⟩
  · rw [toneTick, Tone.tick_of_expired h hp]
  · rw [toneTick, Tone.tick_of_expired_of_period_zero h hp]
  · have hsub : (s.tone i).counter - 1 = c :=
      BitVec.eq_of_toNat_eq (by rw [count_sub_one_toNat (by omega), hc, Nat.add_sub_cancel])
    rw [toneTick, Tone.tick_of_running (by omega), hsub]

theorem tone_tick (i : Fin 3) (s : State) : (tick s).tone i = (s.tone i).tick := by
  fin_cases i <;> rfl

/-- Under any number of ticks a tone channel runs by itself. -/
theorem tone_iterate_tick (i : Fin 3) (n : Nat) (s : State) : (tick^[n] s).tone i = Tone.tick^[n] (s.tone i) :=
  Function.Semiconj.iterate_right (f := (State.tone · i)) (tone_tick i) n s

/-! ## Tone period 0 (R134) -/

theorem Tone.tick_out_of_period_zero {t : Tone} (hp : t.period = 0) : t.tick.out = t.out := by
  obtain h | h := Nat.lt_or_ge 1 t.counter.toNat
  · rw [Tone.tick_of_running h]
  · rw [Tone.tick_of_expired_of_period_zero h hp]

theorem Tone.tick_counter_of_period_zero {t : Tone} (hp : t.period = 0) :
    t.tick.counter.toNat = t.counter.toNat - 1 := by
  obtain h | h := Nat.lt_or_ge 1 t.counter.toNat
  · rw [Tone.tick_of_running h]
    exact count_sub_one_toNat h.le
  · rw [Tone.tick_of_expired_of_period_zero h hp, Nat.sub_eq_zero_of_le h]
    rfl

theorem Tone.iterate_tick_counter_of_period_zero {t : Tone} (hp : t.period = 0) (n : Nat) :
    (Tone.tick^[n] t).counter.toNat = t.counter.toNat - n := by
  induction n generalizing t with
  | zero => rfl
  | succ n ih =>
    rw [Function.iterate_succ_apply, ih ((Tone.tick_period t).trans hp), Tone.tick_counter_of_period_zero hp,
      Nat.sub_sub, Nat.add_comm]

/-- A tone channel with period 0 whose output stands at `o`. -/
def FrozenTone (i : Fin 3) (o : Bool) (s : State) : Prop := (s.tone i).period = 0 ∧ (s.tone i).out = o

theorem frozenTone_advance {i : Fin 3} {o : Bool} {s : State} (h : FrozenTone i o s) (n : Nat) :
    FrozenTone i o (advance n s) := by
  refine advance_induction (fun u hu => ?_) (fun u p hu => ?_) h n
  · obtain ⟨hp, ho⟩ := hu
    rw [FrozenTone, tone_tick, Tone.tick_period, Tone.tick_out_of_period_zero hp]
    exact ⟨hp, ho⟩
  · rwa [FrozenTone, State.tone_setPresc]

/-- Settles O24: no branch of a tone tick with period 0 writes the output. -/
theorem periodZeroFreezesTheOutput : Obligations.PeriodZeroFreezesTheOutput := by
  intro s i n hp
  obtain ⟨hp', ho⟩ := frozenTone_advance (i := i) ⟨hp, rfl⟩ n
  refine ⟨ho, hp', ?_⟩
  rw [tone_iterate_tick, Tone.iterate_tick_counter_of_period_zero hp]

/-! ## Tone period above 0 (R135, R136) -/

theorem Tone.tick_out_ne_iff {t : Tone} (hp : t.period ≠ 0) : t.tick.out ≠ t.out ↔ t.counter.toNat ≤ 1 := by
  obtain h | h := Nat.lt_or_ge 1 t.counter.toNat
  · rw [Tone.tick_of_running h]
    simp [h]
  · rw [Tone.tick_of_expired h hp]
    simpa using h

/-- With period `P` a counter at `c` expires on the ticks that are `max c 1` and a multiple of `P` more. -/
theorem Tone.iterate_tick_expires_iff {t : Tone} (hp : t.period ≠ 0) (n : Nat) :
    (Tone.tick^[n] t).counter.toNat ≤ 1 ↔
      max t.counter.toNat 1 ≤ n + 1 ∧ (n + 1 - max t.counter.toNat 1) % t.period.toNat = 0 := by
  induction n generalizing t with
  | zero =>
    have hzero : max t.counter.toNat 1 ≤ 1 → (1 - max t.counter.toNat 1) % t.period.toNat = 0 := fun h => by
      rw [Nat.sub_eq_zero_of_le (le_max_right ..), Nat.zero_mod]
    simp only [Function.iterate_zero, id_eq, Nat.zero_add]
    omega
  | succ n ih =>
    rw [Function.iterate_succ_apply]
    rw [ih (by rwa [Tone.tick_period]), Tone.tick_period]
    obtain h | h := Nat.lt_or_ge 1 t.counter.toNat
    · have hc : t.tick.counter.toNat = t.counter.toNat - 1 := by
        rw [Tone.tick_of_running h]
        exact count_sub_one_toNat h.le
      have hsub : n + 1 - (t.counter.toNat - 1) = n + 1 + 1 - t.counter.toNat := by omega
      rw [hc, max_eq_left h.le, max_eq_left (by omega), hsub]
      exact and_congr_left' (by omega)
    · have hP : 0 < t.period.toNat := Nat.pos_of_ne_zero fun h => hp (BitVec.eq_of_toNat_eq h)
      have hc : t.tick.counter.toNat = t.period.toNat := by rw [Tone.tick_of_expired h hp]
      rw [hc, max_eq_right h, max_eq_left hP, Nat.add_sub_cancel]
      constructor
      · rintro ⟨hle, hmod⟩
        exact ⟨by omega, by rwa [Nat.mod_eq_sub_mod hle]⟩
      · rintro ⟨-, hmod⟩
        have hle : t.period.toNat ≤ n + 1 := Nat.le_of_dvd (Nat.succ_pos n) (Nat.dvd_of_mod_eq_zero hmod)
        exact ⟨hle, by rwa [← Nat.mod_eq_sub_mod hle]⟩

/-- A tone tick never writes the period, however often. -/
theorem Tone.iterate_tick_period (t : Tone) (n : Nat) : (Tone.tick^[n] t).period = t.period := by
  induction n generalizing t with
  | zero => rfl
  | succ n ih => rw [Function.iterate_succ_apply, ih, Tone.tick_period]

/-- Settles O25: the output toggles on the ticks that find the counter about to expire. -/
theorem toneTogglesOnceEveryPeriod : Obligations.ToneTogglesOnceEveryPeriod := by
  refine fun s i n hp => ⟨?_, fun hs => ?_⟩
  · rw [tone_iterate_tick, tone_iterate_tick, Function.iterate_succ_apply',
      Tone.tick_out_ne_iff (by rwa [Tone.iterate_tick_period]), Tone.iterate_tick_expires_iff hp]
  · rw [advance_sixteen_mul hs, State.tone_setPresc]

/-! ## One noise tick (R137, R138) -/

section Noise

variable {n : Noise} {tap : TapConfig} {r : Count}

theorem Noise.tick_of_running (h : 1 < n.counter.toNat) : n.tick tap r = { n with counter := n.counter - 1 } := by
  rw [Noise.tick, if_neg (fun he => absurd (expires_eq_true_iff.1 he) (by omega))]

theorem Noise.tick_of_falling (h : n.counter.toNat ≤ 1) (he : n.edge = true) :
    n.tick tap r = { n with counter := r, edge := false } := by
  rw [Noise.tick, if_pos (expires_eq_true_iff.2 h), he]
  rfl

theorem Noise.tick_of_rising (h : n.counter.toNat ≤ 1) (he : n.edge = false) :
    n.tick tap r = { n with
      counter := r
      edge := true
      lfsr := lfsrShifted tap n.type n.lfsr
      out := lfsrOutput (lfsrShifted tap n.type n.lfsr) } := by
  rw [Noise.tick, if_pos (expires_eq_true_iff.2 h), he]
  rfl

/-- A noise tick shifts the LFSR into the output, or leaves both. -/
theorem Noise.tick_lfsr_out (n : Noise) (tap : TapConfig) (r : Count) :
    (n.tick tap r).lfsr = n.lfsr ∧ (n.tick tap r).out = n.out ∨
      (n.tick tap r).lfsr = lfsrShifted tap n.type n.lfsr ∧
        (n.tick tap r).out = lfsrOutput (lfsrShifted tap n.type n.lfsr) := by
  obtain h | h := Nat.lt_or_ge 1 n.counter.toNat
  · rw [Noise.tick_of_running h]
    exact .inl ⟨rfl, rfl⟩
  · cases he : n.edge
    · rw [Noise.tick_of_rising h he]
      exact .inr ⟨rfl, rfl⟩
    · rw [Noise.tick_of_falling h he]
      exact .inl ⟨rfl, rfl⟩

end Noise

/-- R138: the reload of each mode. -/
theorem activePeriod_eq {s : State} {r : Count} (h0 : s.noise.mode = 0 → r = s.params.noiseFixed0)
    (h1 : s.noise.mode = 1 → r = s.params.noiseFixed1) (h2 : s.noise.mode = 2 → r = s.params.noiseFixed2)
    (h3 : s.noise.mode = 3 → r = s.tone2.period) : activePeriod s.params s.noise.mode s.tone2.period = r := by
  rcases channel_cases s.noise.mode with h | h | h | h <;> rw [h]
  exacts [(h0 h).symm, (h1 h).symm, (h2 h).symm, (h3 h).symm]

/-- Settles O26: the three branches of the noise tick, with the mode's reload. -/
theorem noiseTickReloadsAndShiftsOnRisingEdges : Obligations.NoiseTickReloadsAndShiftsOnRisingEdges := by
  intro s r h0 h1 h2 h3
  have hr := activePeriod_eq h0 h1 h2 h3
  refine ⟨fun h he => ?_, fun h he => ?_, fun c hc hpos => ?_⟩
  · rw [noiseTick, hr, Noise.tick_of_falling h he]
    rfl
  · rw [noiseTick, hr, Noise.tick_of_rising h he]
    rfl
  · have hsub : s.noise.counter - 1 = c :=
      BitVec.eq_of_toNat_eq (by rw [count_sub_one_toNat (by omega), hc, Nat.add_sub_cancel])
    rw [noiseTick, Noise.tick_of_running (by omega), hsub]
    rfl

/-! ## How often the noise shifts (R139, R146, R147) -/

/-- The reload that a state's mode and tone 2 give. -/
def reloadOf (s : State) : Count := activePeriod s.params s.noise.mode s.tone2.period

theorem noise_tick (s : State) : (tick s).noise = s.noise.tick s.cfg.tap (reloadOf s) := by
  rw [tick_eq, reloadOf, Tone.tick_period]

theorem reloadOf_tick (s : State) : reloadOf (tick s) = reloadOf s := by
  have h := tick_same s
  rw [reloadOf, h.params, h.noise_mode, show (tick s).tone2.period = s.tone2.period from h.period 2, reloadOf]

/-- Under any number of ticks the noise channel runs by itself, with one tap and one reload. -/
theorem noise_iterate_tick (n : Nat) (s : State) :
    (tick^[n] s).noise = (Noise.tick s.cfg.tap (reloadOf s))^[n] s.noise := by
  induction n generalizing s with
  | zero => rfl
  | succ n ih =>
    rw [Function.iterate_succ_apply, ih, reloadOf_tick, (tick_same s).cfg, noise_tick, Function.iterate_succ_apply]

/-- How often `k` ticks shift a noise channel with counter `c` and edge flag `e`, for `m` ticks from one expiry to the
next: every second expiry, and the first one where the flag is 0. -/
def shiftsWithin (m c : Nat) (e : Bool) (k : Nat) : Nat :=
  ((k + m - max c 1) / m + if e then 0 else 1) / 2

section Shifts

variable {m c k : Nat}

theorem shiftsWithin_zero (hm : 1 ≤ m) (e : Bool) : shiftsWithin m c e 0 = 0 := by
  have hnone : (0 + m - max c 1) / m = 0 := Nat.div_eq_of_lt (by omega)
  rw [shiftsWithin, hnone]
  cases e <;> rfl

theorem shiftsWithin_succ_of_running (hc : 1 < c) (e : Bool) :
    shiftsWithin m c e (k + 1) = shiftsWithin m (c - 1) e k := by
  have hgap : k + 1 + m - max c 1 = k + m - max (c - 1) 1 := by omega
  rw [shiftsWithin, shiftsWithin, hgap]

/-- The expiries after one that comes on the first tick, the counter then standing at `r`. -/
theorem expiries_succ_of_expired {r : Nat} (hm : m = max r 1) (hc : c ≤ 1) :
    (k + 1 + m - max c 1) / m = (k + m - max r 1) / m + 1 := by
  have hgap : k + 1 + m - max c 1 = k + m := by omega
  rw [hgap, ← hm, Nat.add_sub_cancel, Nat.add_div_right k (by omega)]

theorem shiftsWithin_succ_of_falling {r : Nat} (hm : m = max r 1) (hc : c ≤ 1) :
    shiftsWithin m c true (k + 1) = shiftsWithin m r false k := by
  rw [shiftsWithin, shiftsWithin, expiries_succ_of_expired hm hc]
  rfl

theorem shiftsWithin_succ_of_rising {r : Nat} (hm : m = max r 1) (hc : c ≤ 1) :
    shiftsWithin m c false (k + 1) = shiftsWithin m r true k + 1 := by
  rw [shiftsWithin, shiftsWithin, expiries_succ_of_expired hm hc]
  simp only [if_true, Bool.false_eq_true, if_false]
  omega

/-- From a counter about to expire with the flag 0, the first tick shifts and then every `2m`-th. -/
theorem shiftsWithin_of_rising (hc : c ≤ 1) : shiftsWithin m c false k = (k + 2 * m - 1) / (2 * m) := by
  obtain rfl | hm := Nat.eq_zero_or_pos m
  · simp [shiftsWithin]
  · have hgap : k + 2 * m - 1 = k + m - max c 1 + m := by omega
    rw [hgap, Nat.mul_comm, ← Nat.div_div_eq_div_mul, Nat.add_div_right _ hm]
    rfl

end Shifts

theorem Noise.iterate_tick_lfsr (tap : TapConfig) (r : Count) (k : Nat) (n : Noise) :
    ((Noise.tick tap r)^[k] n).lfsr =
      (lfsrShifted tap n.type)^[shiftsWithin (max r.toNat 1) n.counter.toNat n.edge k] n.lfsr := by
  induction k generalizing n with
  | zero => rw [shiftsWithin_zero (le_max_right ..)]; rfl
  | succ k ih =>
    rw [Function.iterate_succ_apply, ih, Noise.tick_type]
    obtain h | h := Nat.lt_or_ge 1 n.counter.toNat
    · rw [shiftsWithin_succ_of_running h, Noise.tick_of_running h, count_sub_one_toNat h.le]
    · cases he : n.edge
      · rw [shiftsWithin_succ_of_rising rfl h, Noise.tick_of_rising h he, Function.iterate_succ_apply]
      · rw [shiftsWithin_succ_of_falling rfl h, Noise.tick_of_falling h he]

/-- Settles O32: the noise channel runs by itself, and its shifts are counted tick by tick. -/
theorem noiseShiftsOnceEveryTwoReloads : Obligations.NoiseShiftsOnceEveryTwoReloads := by
  rintro s n R rfl hc he
  rw [noise_iterate_tick, Noise.iterate_tick_lfsr, he, shiftsWithin_of_rising hc]
  rfl

/-! ## The shift itself (R140, R141, R145) -/

/-- R141 as arithmetic: the feedback is the parity of the tapped bits. -/
theorem feedback_toNat (tap : TapConfig) (ty : NoiseType) (x : LfsrWord) :
    (feedback tap ty x).toNat = (match tap, ty with
      | .tap15, .periodic => x.toNat % 2
      | .tap15, .white => (x.toNat + x.toNat / 2) % 2
      | .tap16, .periodic => x.toNat % 2
      | .tap16, .white => (x.toNat + x.toNat / 8) % 2
      | .tapNone, _ => 0) := by
  have hbit : ∀ i, (x.getLsbD i).toNat = x.toNat / 2 ^ i % 2 := fun i => Nat.toNat_testBit ..
  have hxor : ∀ a b : Bool, (a ^^ b).toNat = (a.toNat + b.toNat) % 2 := by decide
  cases tap <;> cases ty <;> simp only [feedback, hxor, hbit, Bool.toNat_false] <;> omega

/-- The output bit of a shift is the old bit 1. -/
theorem lfsrOutput_lfsrShifted (tap : TapConfig) (ty : NoiseType) (x : LfsrWord) :
    lfsrOutput (lfsrShifted tap ty x) = x.getLsbD 1 := by
  cases tap <;> simp [lfsrOutput, lfsrShifted, lfsrWidth]

/-- Settles O27: the shift is halving with the feedback as the new top bit. -/
theorem lfsrShiftWithTheConfiguredTap : Obligations.LfsrShiftWithTheConfiguredTap := by
  intro tap ty x n hn hx
  obtain rfl : n = lfsrWidth tap := hn.trans (by cases tap <;> rfl)
  refine ⟨(lfsrShifted_toNat hx ty).trans ?_, lfsrShifted_lt hx ty, ?_⟩
  · exact congrArg (x.toNat / 2 + 2 ^ (lfsrWidth tap - 1) * ·) (feedback_toNat tap ty x)
  · rintro m rfl rfl
    rw [← lfsrOutput_lfsrShifted tap m.type]
    rfl

/-- R145: without a tap a register of at most 1 is emptied. -/
theorem lfsrShifted_tapNone {x : LfsrWord} (hx : x.toNat ≤ 1) (ty : NoiseType) : lfsrShifted .tapNone ty x = 0 := by
  have hwidth : x.toNat < 2 ^ lfsrWidth .tapNone := hx.trans_lt (by decide)
  have hfb : feedback .tapNone ty x = false := by cases ty <;> rfl
  refine BitVec.eq_of_toNat_eq ?_
  rw [lfsrShifted_toNat hwidth, hfb, Nat.div_eq_of_lt (by omega)]
  rfl

/-- A noise channel that no tap revives. -/
def SilentNoise (s : State) : Prop := s.cfg.tap = .tapNone ∧ s.noise.lfsr = 0 ∧ s.noise.out = false

theorem silentNoise_tick {s : State} (h : SilentNoise s) : SilentNoise (tick s) := by
  obtain ⟨htap, hlfsr, hout⟩ := h
  rw [SilentNoise, (tick_same s).cfg, noise_tick]
  refine ⟨htap, ?_⟩
  obtain ⟨hl, ho⟩ | ⟨hl, ho⟩ := s.noise.tick_lfsr_out s.cfg.tap (reloadOf s) <;> rw [hl, ho]
  · exact ⟨hlfsr, hout⟩
  · rw [htap, lfsrShifted_tapNone (by simp [hlfsr])]
    exact ⟨rfl, rfl⟩

/-- Settles O31: the first shift empties the register, and an empty one stays so. -/
theorem unsupportedWidthSilencesTheNoise : Obligations.UnsupportedWidthSilencesTheNoise := by
  refine ⟨fun n hn => ?_, fun s k htap hlfsr hout => ?_⟩
  · rw [Noise.shift, lfsrShifted_tapNone hn]
    exact ⟨rfl, rfl⟩
  · obtain ⟨-, hl, ho⟩ := advance_induction (P := SilentNoise) (fun _ => silentNoise_tick)
      (fun _ _ => id) ⟨htap, hlfsr, hout⟩ k
    refine ⟨hl, ho, ?_⟩
    rw [ho]
    rfl

end Sys2Proof.Machine
end

section
/-! PROOFS. What each instruction leaves as it was, and what it moves (spec/10_state.md R48, R50, R53, R60,
spec/43_host_operations.md R190, R194, R196): one frame for every instruction but CONSTRUCT. -/

namespace Sys2Proof.Machine

/-! ## The step is one host operation (R15, R221) -/

section Step

variable {s t : State} {op : HostOp} {rest : List HostOp}

theorem step_of_ops_nil (h : s.ops = []) : step s = .next s := by
  rw [step, takeOp, h]
  rfl

theorem step_of_ops_cons (h : s.ops = op :: rest) : step s = exec op.toInstr (s.setOps rest) := by
  rw [step, takeOp, h]

end Step

section Frame

variable {s t : State} {i : Instr}

/-! ## Before CONSTRUCT (R195, R196) -/

theorem exec_eq_whenBuilt (hi : ¬ ∃ c r w, i = .construct c r w) (s : State) : ∃ o, exec i s = whenBuilt s o := by
  cases i
  case construct c r w => exact absurd ⟨c, r, w, rfl⟩ hi
  all_goals exact ⟨_, rfl⟩

theorem built_of_exec_next (hi : ¬ ∃ c r w, i = .construct c r w) (h : exec i s = .next t) : s.built = true := by
  obtain ⟨o, ho⟩ := exec_eq_whenBuilt hi s
  exact (whenBuilt_eq_next.1 (ho.symm.trans h)).1

/-! ## Every instruction but CONSTRUCT (R6, R48, R53) -/

/-- The configuration with its table and warning, and the operations still to come. -/
structure ConfigurationKept (s t : State) : Prop where
  params : t.params = s.params
  cfg : t.cfg = s.cfg
  built : t.built = s.built
  atten : t.atten = s.atten
  warn : t.warn = s.warn
  ops : t.ops = s.ops

theorem ConfigurationKept.refl (s : State) : ConfigurationKept s s := ⟨rfl, rfl, rfl, rfl, rfl, rfl⟩

theorem ConfigurationKept.trans {u : State} (a : ConfigurationKept s t) (b : ConfigurationKept t u) :
    ConfigurationKept s u where
  params := b.params.trans a.params
  cfg := b.cfg.trans a.cfg
  built := b.built.trans a.built
  atten := b.atten.trans a.atten
  warn := b.warn.trans a.warn
  ops := b.ops.trans a.ops

theorem SequencerKeeps.configurationKept (h : SequencerKeeps s t) : ConfigurationKept s t :=
  ⟨h.params, h.cfg, h.built, h.atten, h.warn, h.ops⟩

theorem generateSample_configurationKept (h : generateSample s = .next t) : ConfigurationKept s t := by
  obtain ⟨u, rfl, hkeep, -⟩ := generateSample_answer h
  exact ⟨hkeep.params, hkeep.cfg, hkeep.built, hkeep.atten, hkeep.warn, hkeep.ops⟩

theorem generateSamples_configurationKept {n : Nat} (h : generateSamples n s = .next t) : ConfigurationKept s t := by
  induction n generalizing s with
  | zero => cases h; exact .refl _
  | succ n ih =>
    obtain ⟨u, hu, ht⟩ := andThen_eq_next.1 h
    exact (generateSample_configurationKept hu).trans (ih ht)

/-- The two kinds of instructions (R3). -/
theorem isCommand_or_operation (i : Instr) : i.isCommand = true ∨ ∃ op : HostOp, i = op.toInstr := by
  cases i
  case construct c r w => exact .inr ⟨.construct c r w, rfl⟩
  case write b => exact .inr ⟨.write b, rfl⟩
  case generateSample => exact .inr ⟨.generateSample, rfl⟩
  case generateSamples n => exact .inr ⟨.generateSamples n, rfl⟩
  case reset => exact .inr ⟨.reset, rfl⟩
  all_goals exact .inl rfl

theorem exec_configurationKept (hi : ¬ ∃ c r w, i = .construct c r w) (h : exec i s = .next t) :
    ConfigurationKept s t := by
  obtain hcommand | ⟨op, rfl⟩ := isCommand_or_operation i
  · exact (exec_command_sameButRegisters hcommand h).sequencerKeeps.configurationKept
  · cases op with
    | construct c r w => exact absurd ⟨c, r, w, rfl⟩ hi
    | write b => obtain ⟨-, ht⟩ := whenBuilt_eq_next.1 h; cases ht; exact ⟨rfl, rfl, rfl, rfl, rfl, rfl⟩
    | generateSample => exact generateSample_configurationKept (whenBuilt_eq_next.1 h).2
    | generateSamples n => exact generateSamples_configurationKept (whenBuilt_eq_next.1 h).2
    | reset => obtain ⟨-, ht⟩ := whenBuilt_eq_next.1 h; cases ht; exact ⟨rfl, rfl, rfl, rfl, rfl, rfl⟩

/-! ## CONSTRUCT (R190) -/

theorem configWarning_eq (tap : TapConfig) : configWarning tap = decide (tap = .tapNone) := by
  cases tap <;> rfl

/-- A CONSTRUCT that answers fixes rates of at least 1 and resets the block. -/
theorem exec_construct_configures {c r w : Int} (h : exec (.construct c r w) s = .next t) :
    ∃ cfg : RunConfig, 1 ≤ cfg.clockRate ∧ 1 ≤ cfg.sampleRate ∧
      t = resetRegisters (((s.configure cfg).setCycle 0).setRem 0) := by
  by_cases hrate : c < 1 ∨ r < 1
  · cases (exec_construct_refused hrate w s).symm.trans h
  · have ht := (exec_construct_of_rates (by omega) (by omega) w s).symm.trans h
    refine ⟨_, ?_, ?_, (Host.Outcome.next.inj ht).symm⟩ <;> dsimp only <;> omega

/-- No instruction writes the parameters or the operations still to come, and each leaves a block that exists. -/
theorem exec_params_ops_built (h : exec i s = .next t) :
    t.params = s.params ∧ t.ops = s.ops ∧ t.built = true := by
  by_cases hi : ∃ c r w, i = .construct c r w
  · obtain ⟨c, r, w, rfl⟩ := hi
    obtain ⟨cfg, -, -, rfl⟩ := exec_construct_configures h
    exact ⟨rfl, rfl, rfl⟩
  · have hkept := exec_configurationKept hi h
    exact ⟨hkept.params, hkept.ops, hkept.built.trans (built_of_exec_next hi h)⟩

/-! ## The cycle counter (R50) -/

theorem generateSample_cycle (h : generateSample s = .next t) : t.cycle = s.cycle + rateCycles s := by
  obtain ⟨u, rfl, -, hcycle⟩ := generateSample_answer h
  exact hcycle

theorem generateSamples_cycle_le {n : Nat} (h : generateSamples n s = .next t) : s.cycle ≤ t.cycle := by
  induction n generalizing s with
  | zero => cases h; exact le_rfl
  | succ n ih =>
    obtain ⟨u, hu, ht⟩ := andThen_eq_next.1 h
    exact (Nat.le_add_right ..).trans ((generateSample_cycle hu).ge.trans (ih ht))

theorem exec_construct_cycle {c r w : Int} (h : exec (.construct c r w) s = .next t) : t.cycle = 0 := by
  obtain ⟨u, -, hcycle, hrem, rfl⟩ := exec_construct_answer h
  exact (resetRegisters_timing_of_zero hcycle hrem).1

/-! ## The samples returned (R60) -/

theorem generateSample_samples (h : generateSample s = .next t) : ∃ v, t.samples = s.samples ++ [v] := by
  obtain ⟨u, rfl, hkeep, -⟩ := generateSample_answer h
  exact ⟨mix u, congrArg (· ++ [mix u]) hkeep.samples⟩

theorem generateSamples_samples {n : Nat} (h : generateSamples n s = .next t) :
    ∃ l : List Sample, l.length = n ∧ t.samples = s.samples ++ l := by
  induction n generalizing s with
  | zero => cases h; exact ⟨[], rfl, (List.append_nil _).symm⟩
  | succ n ih =>
    obtain ⟨u, hu, ht⟩ := andThen_eq_next.1 h
    obtain ⟨v, hv⟩ := generateSample_samples hu
    obtain ⟨l, hl, hlt⟩ := ih ht
    exact ⟨v :: l, congrArg Nat.succ hl, by rw [hlt, hv, List.append_assoc, List.singleton_append]⟩

/-- Every instruction but the two sample operations returns none. -/
theorem exec_samples (h1 : i ≠ .generateSample) (hn : ∀ n, i ≠ .generateSamples n) (h : exec i s = .next t) :
    t.samples = s.samples := by
  obtain hcommand | ⟨op, rfl⟩ := isCommand_or_operation i
  · exact (exec_command_sameButRegisters hcommand h).samples
  · cases op with
    | construct c r w => obtain ⟨cfg, -, -, rfl⟩ := exec_construct_configures h; rfl
    | write b => obtain ⟨-, ht⟩ := whenBuilt_eq_next.1 h; cases ht; rfl
    | generateSample => exact absurd rfl h1
    | generateSamples n => exact absurd rfl (hn n)
    | reset => obtain ⟨-, ht⟩ := whenBuilt_eq_next.1 h; cases ht; rfl

end Frame

/-- Settles O56: every instruction but CONSTRUCT asks whether the block exists. -/
theorem nothingRunsBeforeConstruct : Obligations.NothingRunsBeforeConstruct := by
  intro s i hb hi
  obtain ⟨o, ho⟩ := exec_eq_whenBuilt hi s
  exact ho.trans (whenBuilt_of_unbuilt hb o)

/-- Settles O51: CONSTRUCT by its configuration, every other instruction by the frame. -/
theorem onlyConstructWritesTheConfiguration : Obligations.OnlyConstructWritesTheConfiguration := by
  intro i s t h
  obtain ⟨hparams, -, hbuilt⟩ := exec_params_ops_built h
  refine ⟨hparams, hbuilt, ?_, fun hi => ?_⟩
  · rintro ⟨c, r, w, rfl⟩
    obtain ⟨cfg, -, -, rfl⟩ := exec_construct_configures h
    change configWarning cfg.tap = true ↔ cfg.tap = .tapNone
    rw [configWarning_eq, decide_eq_true_iff]
  · have hkept := exec_configurationKept hi h
    exact ⟨hkept.warn, hkept.cfg, hkept.atten⟩

/-- Settles O52: a sample ends at its target cycle, and nothing else but a reset moves the cycle. -/
theorem cycleCounterMovesForwardBetweenResets : Obligations.CycleCounterMovesForwardBetweenResets := by
  intro i s t h
  refine ⟨?_, ?_, ?_, ?_⟩
  · rintro (rfl | ⟨n, rfl⟩)
    · exact (Nat.le_add_right ..).trans (generateSample_cycle (whenBuilt_eq_next.1 h).2).ge
    · exact generateSamples_cycle_le (whenBuilt_eq_next.1 h).2
  · rintro rfl
    obtain ⟨-, ht⟩ := whenBuilt_eq_next.1 h
    cases ht; rfl
  · rintro ⟨c, r, w, rfl⟩
    exact exec_construct_cycle h
  · rintro (hi | ⟨b, rfl⟩)
    · exact (exec_command_sameButRegisters hi h).cycle
    · obtain ⟨-, ht⟩ := whenBuilt_eq_next.1 h
      cases ht; rfl

/-- Settles O54: each sample appends its mix. -/
theorem onlySampleOperationsReturnSamples : Obligations.OnlySampleOperationsReturnSamples := by
  intro i s t h
  obtain ⟨-, hops, -⟩ := exec_params_ops_built h
  refine ⟨hops, ?_, ?_, fun h1 hn => exec_samples h1 hn h⟩
  · rintro rfl
    exact generateSample_samples (whenBuilt_eq_next.1 h).2
  · rintro n rfl
    exact generateSamples_samples (whenBuilt_eq_next.1 h).2

end Sys2Proof.Machine
end

section
/-! PROOFS. The invariant of the reachable states (spec/10_state.md R61, spec/20_memory.md R73): each operation of the
sequencer keeps it, and with it no step faults. -/

namespace Sys2Proof.Machine

/-! ## The LFSR (R61, R143) -/

/-- R61's clauses on the LFSR: within the tap's width, and nonzero under the two supported taps. -/
def LfsrInv (tap : TapConfig) (x : LfsrWord) : Prop := x.toNat < 2 ^ lfsrWidth tap ∧ (tap ≠ .tapNone → x ≠ 0)

theorem BlockInv.lfsrInv {s : State} (h : BlockInv s) : LfsrInv s.cfg.tap s.noise.lfsr := ⟨h.lfsr_lt, h.lfsr_ne⟩

theorem lfsrInv_one (tap : TapConfig) : LfsrInv tap 1 := by
  refine ⟨?_, fun _ => by decide⟩
  cases tap <;> decide

theorem lfsrInv_lfsrShifted {tap : TapConfig} {x : LfsrWord} (h : LfsrInv tap x) (ty : NoiseType) :
    LfsrInv tap (lfsrShifted tap ty x) := by
  obtain ⟨hlt, hne⟩ := h
  exact ⟨lfsrShifted_lt hlt ty, fun htap => lfsrShifted_ne_zero htap ty ⟨hne htap, hlt⟩⟩

theorem lfsrInv_tick {s : State} (h : LfsrInv s.cfg.tap s.noise.lfsr) :
    LfsrInv (tick s).cfg.tap (tick s).noise.lfsr := by
  rw [(tick_same s).cfg, noise_tick]
  obtain ⟨hl, -⟩ | ⟨hl, -⟩ := s.noise.tick_lfsr_out s.cfg.tap (reloadOf s) <;> rw [hl]
  · exact h
  · exact lfsrInv_lfsrShifted h _

theorem lfsrInv_advance {s : State} (h : LfsrInv s.cfg.tap s.noise.lfsr) (n : Nat) :
    LfsrInv (advance n s).cfg.tap (advance n s).noise.lfsr :=
  advance_induction (P := fun u => LfsrInv u.cfg.tap u.noise.lfsr) (fun _ => lfsrInv_tick) (fun _ _ => id) h n

/-- R47: the prescaler stays between 1 and 16. -/
theorem advance_presc {s : State} (hpos : 1 ≤ s.presc) (hle : s.presc ≤ 16) (n : Nat) :
    1 ≤ (advance n s).presc ∧ (advance n s).presc ≤ 16 := by
  rw [advance_eq_iterate_tick hpos hle, State.setPresc_presc]
  omega

/-! ## What keeps a block in the invariant -/

section Keeps

variable {s t : State}

theorem blockInv_setOps (h : BlockInv s) (ops : List HostOp) : BlockInv (s.setOps ops) := { h with }

theorem blockInv_pushSample (h : BlockInv s) (v : Sample) : BlockInv (s.pushSample v) := { h with }

/-- The remainder after a rate step is one of a division by the sample rate. -/
theorem blockInv_rateStep (h : BlockInv s) : BlockInv (rateStep s) :=
  { h with rem_lt := (rateStep_rem s).trans_lt (Nat.mod_lt _ h.sample_pos) }

/-- What the sequencer may do besides: take entries off the queue, move the cycle up to the first one left, move the
prescaler within its range and the LFSR within its invariant. -/
theorem blockInv_of_sequencerKeeps (h : BlockInv s) (hkeep : SequencerKeeps s t) (hpresc : 1 ≤ t.presc ∧ t.presc ≤ 16)
    (hlfsr : LfsrInv s.cfg.tap t.noise.lfsr) (hqueue : t.queue <:+ s.queue) (hcycle : s.cycle ≤ t.cycle)
    (hfront : ∀ w ∈ t.queue, t.cycle ≤ w.target) : BlockInv t := by
  obtain ⟨hparams, hcfg, -, hatten, hwarn, hrem, -, -⟩ := hkeep
  obtain ⟨hlt, hne⟩ := hlfsr
  rw [← hcfg] at hlt hne
  exact {
    clock_pos := by rw [hcfg]; exact h.clock_pos
    sample_pos := by rw [hcfg]; exact h.sample_pos
    rem_lt := by rw [hrem, hcfg]; exact h.rem_lt
    presc_pos := hpresc.1
    presc_le := hpresc.2
    lfsr_lt := hlt
    lfsr_ne := hne
    queue_ordered := ⟨h.queue_ordered.1.sublist hqueue.sublist, hfront⟩
    queue_stamped := fun w hw => (h.queue_stamped w (hqueue.subset hw)).trans (by rw [hparams]; omega)
    queue_flags := fun w hw => h.queue_flags w (hqueue.subset hw)
    atten_eq := by rw [hatten, hparams, h.atten_eq]
    warn_eq := by rw [hwarn, hcfg, h.warn_eq] }

/-! ## The sequencer (R164) -/

theorem blockInv_dequeued {w : PendingWrite} {q : List PendingWrite} (h : BlockInv s) (hq : s.queue = w :: q) :
    BlockInv (s.setQueue q) := by
  have htail : q <:+ s.queue := hq ▸ List.suffix_cons w q
  exact blockInv_of_sequencerKeeps h (setQueue_sequencerKeeps s q) ⟨h.presc_pos, h.presc_le⟩ h.lfsrInv htail le_rfl
    fun v hv => h.queue_ordered.2 v (htail.subset hv)

/-- Time may pass up to a cycle that no queued write lies below. -/
theorem blockInv_advanceTo {T : Nat} (h : BlockInv s) (hfront : ∀ w ∈ s.queue, T ≤ w.target)
    (ht : advanceTo T s = .next t) : BlockInv t := by
  obtain ⟨hT, rfl⟩ := advanceTo_eq_next.1 ht
  have hsame := advance_same (T - s.cycle) s
  have hlfsr := lfsrInv_advance h.lfsrInv (T - s.cycle)
  rw [hsame.cfg] at hlfsr
  refine blockInv_of_sequencerKeeps h (advance_setCycle_sequencerKeeps ..)
    (advance_presc h.presc_pos h.presc_le (T - s.cycle)) hlfsr ?_ hT ?_ <;> rw [State.setCycle_queue, hsame.queue]
  exact hfront

/-- A byte writes registers alone, the LFSR with the seed 1. -/
theorem blockInv_applyByte {b : Byte} (h : BlockInv s) (ht : applyByte b s = .next t) : BlockInv t := by
  rw [applyByte_eq_exec] at ht
  have hsame := exec_command_sameButRegisters (decodeByte_isCommand ..) ht
  have hlfsr : LfsrInv s.cfg.tap t.noise.lfsr := by
    obtain hl | hl := hsame.lfsr <;> rw [hl]
    exacts [h.lfsrInv, lfsrInv_one _]
  refine blockInv_of_sequencerKeeps h hsame.sequencerKeeps ?_ hlfsr ?_ hsame.cycle.ge ?_
  · rw [hsame.presc]
    exact ⟨h.presc_pos, h.presc_le⟩
  · rw [hsame.queue]
  · rw [hsame.queue, hsame.cycle]
    exact h.queue_ordered.2

/-- One round: the head's cycle lies below no write behind it. -/
theorem blockInv_applyAt {w : PendingWrite} {q : List PendingWrite} (h : BlockInv s) (hq : s.queue = w :: q)
    (ht : applyAt w (s.setQueue q) = .next t) : BlockInv t := by
  obtain ⟨u, hu, happ⟩ := andThen_eq_next.1 ht
  have hbehind : ∀ v ∈ q, w.target ≤ v.target := by
    have hpair := h.queue_ordered.1
    rw [hq] at hpair
    exact (List.pairwise_cons.1 hpair).1
  exact blockInv_applyByte (blockInv_advanceTo (blockInv_dequeued h hq) hbehind hu) happ

theorem blockInv_drainDue {fuel T : Nat} (h : BlockInv s) (ht : drainDue fuel T s = .next t) : BlockInv t := by
  induction fuel generalizing s with
  | zero => cases ht; exact h
  | succ n ih =>
    cases hd : s.headDue T
    · rw [drainDue_of_not_due hd] at ht
      cases ht; exact h
    · obtain ⟨w, q, hq, hw⟩ := headDue_eq_true.1 hd
      rw [drainDue_of_due hq hw] at ht
      obtain ⟨u, hu, hrest⟩ := andThen_eq_next.1 ht
      exact ih (blockInv_applyAt h hq hu) hrest

/-- After the loop every write left is stamped above the sample's target cycle. -/
theorem blockInv_sampleTo {T : Nat} (h : BlockInv s) (ht : sampleTo T s = .next t) : BlockInv t := by
  obtain ⟨u, hu, hfinish⟩ := andThen_eq_next.1 ht
  obtain ⟨v, hv, hpush⟩ := andThen_eq_next.1 hfinish
  have hfront : ∀ w ∈ u.queue, T ≤ w.target := fun w hw =>
    (lt_of_mem_dropWhile h.queue_ordered.1 (drainDue_queue hu ▸ hw)).le
  cases hpush
  exact blockInv_pushSample (blockInv_advanceTo (blockInv_drainDue h hu) hfront hv) _

theorem blockInv_generateSample (h : BlockInv s) (ht : generateSample s = .next t) : BlockInv t :=
  blockInv_sampleTo (blockInv_rateStep h) ht

theorem blockInv_generateSamples {n : Nat} (h : BlockInv s) (ht : generateSamples n s = .next t) : BlockInv t := by
  induction n generalizing s with
  | zero => cases ht; exact h
  | succ n ih =>
    obtain ⟨u, hu, hrest⟩ := andThen_eq_next.1 ht
    exact ih (blockInv_generateSample h hu) hrest

/-! ## The other operations -/

/-- A WRITE's stamp lies above every other, and at the bound itself. -/
theorem blockInv_enqueue (h : BlockInv s) (b : Byte) : BlockInv (s.enqueue (pendingWrite b (writeStamp s))) := by
  obtain ⟨hpair, hfront⟩ := h.queue_ordered
  have hbelow : ∀ v ∈ s.queue, ∀ w ∈ [pendingWrite b (writeStamp s)], v.target ≤ w.target := fun v hv =>
    List.forall_mem_singleton.2 (h.queue_stamped v hv)
  exact { h with
    queue_ordered := ⟨List.pairwise_append.2 ⟨hpair, List.pairwise_singleton .., hbelow⟩,
      List.forall_mem_append.2 ⟨hfront, List.forall_mem_singleton.2 (Nat.le_add_right ..)⟩⟩
    queue_stamped := List.forall_mem_append.2 ⟨h.queue_stamped, List.forall_mem_singleton.2 le_rfl⟩
    queue_flags := List.forall_mem_append.2 ⟨h.queue_flags, List.forall_mem_singleton.2 rfl⟩ }

/-- A reset sets every register of R61 but the remainder, which it clears or leaves. -/
theorem blockInv_resetRegisters (hclock : 1 ≤ s.cfg.clockRate) (hsample : 1 ≤ s.cfg.sampleRate)
    (hrem : s.rem < s.cfg.sampleRate) (hatten : s.atten = s.params.ampQ16)
    (hwarn : s.warn = decide (s.cfg.tap = .tapNone)) : BlockInv (resetRegisters s) where
  clock_pos := hclock
  sample_pos := hsample
  rem_lt := by
    cases hclears : s.params.resetClearsTiming
    · rw [(resetRegisters_timing_of_keeps hclears).2]
      exact hrem
    · rw [(resetRegisters_timing_of_clears hclears).2]
      exact hsample
  presc_pos := Nat.succ_pos 15
  presc_le := le_rfl
  lfsr_lt := (lfsrInv_one s.cfg.tap).1
  lfsr_ne := (lfsrInv_one s.cfg.tap).2
  queue_ordered := ⟨.nil, List.forall_mem_nil _⟩
  queue_stamped := List.forall_mem_nil _
  queue_flags := List.forall_mem_nil _
  atten_eq := hatten
  warn_eq := hwarn

theorem blockInv_construct {c r w : Int} (ht : exec (.construct c r w) s = .next t) : BlockInv t := by
  obtain ⟨cfg, hclock, hsample, rfl⟩ := exec_construct_configures ht
  exact blockInv_resetRegisters hclock hsample hsample rfl (configWarning_eq cfg.tap)

/-- Each host operation that answers from a block in the invariant leaves one. -/
theorem blockInv_exec_operation {op : HostOp} (h : s.built = true → BlockInv s) (ht : exec op.toInstr s = .next t) :
    BlockInv t := by
  cases op with
  | construct c r w => exact blockInv_construct ht
  | write b =>
    obtain ⟨hb, hnext⟩ := whenBuilt_eq_next.1 ht
    cases hnext; exact blockInv_enqueue (h hb) b
  | generateSample =>
    obtain ⟨hb, hnext⟩ := whenBuilt_eq_next.1 ht
    exact blockInv_generateSample (h hb) hnext
  | generateSamples n =>
    obtain ⟨hb, hnext⟩ := whenBuilt_eq_next.1 ht
    exact blockInv_generateSamples (h hb) hnext
  | reset =>
    obtain ⟨hb, hnext⟩ := whenBuilt_eq_next.1 ht
    have hinv := h hb
    cases hnext
    exact blockInv_resetRegisters hinv.clock_pos hinv.sample_pos hinv.rem_lt hinv.atten_eq hinv.warn_eq

/-! ## The step (R61, R210) -/

theorem inv_exec_operation {op : HostOp} (h : Inv s) (ht : exec op.toInstr s = .next t) : Inv t := by
  obtain ⟨hparams, -, -⟩ := exec_params_ops_built ht
  exact ⟨hparams ▸ h.params_wf, fun _ => blockInv_exec_operation h.block ht⟩

theorem inv_setOps (h : Inv s) (ops : List HostOp) : Inv (s.setOps ops) :=
  ⟨h.params_wf, fun hb => blockInv_setOps (h.block hb) ops⟩

/-- R210: no operation of a block in the invariant faults, and before CONSTRUCT there is none. -/
theorem exec_operation_ne_fault {op : HostOp} (h : Inv s) (f : Fault) : exec op.toInstr s ≠ .fault f := by
  obtain ⟨hoperation, hconstruct⟩ := operationsAreTotalAfterConstruct s op h
  intro hf
  by_cases hop : ∃ c r w, op = .construct c r w
  · obtain ⟨c, r, w, rfl⟩ := hop
    obtain ⟨hnext, hrefused⟩ := hconstruct c r w rfl
    by_cases hrate : c < 1 ∨ r < 1
    · cases hf.symm.trans (hrefused hrate)
    · obtain ⟨t, ht⟩ := hnext (by omega) (by omega)
      cases hf.symm.trans ht
  · obtain ⟨hbuilt, hunbuilt⟩ := hoperation hop
    cases hb : s.built
    · cases hf.symm.trans (hunbuilt hb)
    · obtain ⟨t, ht⟩ := hbuilt hb
      cases hf.symm.trans ht

end Keeps

/-- Settles O57: the step is one host operation, and each keeps the invariant. -/
theorem stepKeepsTheInvariant : Obligations.StepKeepsTheInvariant := by
  intro s t h ht
  cases hops : s.ops with
  | nil =>
    rw [step_of_ops_nil hops] at ht
    cases ht; exact h
  | cons op rest =>
    rw [step_of_ops_cons hops] at ht
    exact inv_exec_operation (inv_setOps h rest) ht

/-- Settles O59: every operation answers or is refused. -/
theorem stepNeverFaults : Obligations.StepNeverFaults := by
  intro s f h hf
  cases hops : s.ops with
  | nil => cases (step_of_ops_nil hops).symm.trans hf
  | cons op rest => exact exec_operation_ne_fault (inv_setOps h rest) f ((step_of_ops_cons hops).symm.trans hf)

/-- Settles O58: the reset state is a reset of itself. -/
theorem resetMeetsTheInvariant : Obligations.ResetMeetsTheInvariant :=
  ⟨by decide, fun _ => blockInv_resetRegisters (s := State.reset) (by decide) (by decide) (by decide) rfl rfl⟩

end Sys2Proof.Machine
end

section
/-! PROOFS. Apply and the command forms (spec/40_register_writes.md R110 to R119, spec/30_encoding.md R94, R95, R102):
one byte's effect as a write to the register of the latch state it finds, and what follows for repeated bytes, the two
parts of a period and the pseudo-instructions. -/

namespace Sys2Proof.Machine

/-! ## The fields of a byte as numbers (R91 to R95) -/

theorem getLsbD_eq_true_iff {n : Nat} (b : BitVec n) (i : Nat) : b.getLsbD i = true ↔ b.toNat / 2 ^ i % 2 = 1 := by
  rw [BitVec.getLsbD, Nat.testBit_eq_decide_div_mod_eq, decide_eq_true_iff]

theorem isLatchByte_iff (b : Byte) : isLatchByte b = true ↔ 128 ≤ b.toNat := by
  have hb := b.isLt
  rw [isLatchByte, getLsbD_eq_true_iff]
  omega

theorem latchChannel_toNat (b : Byte) : (latchChannel b).toNat = b.toNat / 32 % 4 := by
  rw [latchChannel, BitVec.extractLsb'_toNat, Nat.shiftRight_eq_div_pow]

theorem latchIsVolume_iff (b : Byte) : latchIsVolume b = true ↔ b.toNat / 16 % 2 = 1 := getLsbD_eq_true_iff b 4

theorem low4_toNat (b : Byte) : (low4 b).toNat = b.toNat % 16 := BitVec.extractLsb'_toNat ..

theorem low6_toNat (b : Byte) : (low6 b).toNat = b.toNat % 64 := BitVec.extractLsb'_toNat ..

theorem modeBits_toNat (b : Byte) : (modeBits b).toNat = b.toNat % 4 := BitVec.extractLsb'_toNat ..

theorem noiseTypeOfBit_eq (b : Byte) :
    noiseTypeOfBit (b.getLsbD 2) = if b.toNat / 4 % 2 = 1 then .white else .periodic :=
  if_congr (getLsbD_eq_true_iff b 2) rfl rfl

theorem noiseTypeOfBit_eq_of_iff {b : Byte} {ty : NoiseType} (h : b.toNat / 4 % 2 = 1 ↔ ty = .white) :
    noiseTypeOfBit (b.getLsbD 2) = ty := by
  rw [noiseTypeOfBit_eq]
  cases ty
  · exact if_neg (by simp [h])
  · exact if_pos (h.2 rfl)

theorem modeBits_eq_of_mod_eq {b : Byte} {m : PeriodMode} (h : b.toNat % 4 = m.toNat) : modeBits b = m :=
  BitVec.eq_of_toNat_eq ((modeBits_toNat b).trans h)

/-! ## The latch forms and the noise control (R112 to R114, R117) -/

/-- Settles O2: each channel's volume write; the bytes are R100's rows. -/
theorem latchToneVolumeReplacesVolume : Obligations.LatchToneVolumeReplacesVolume := by
  intro s v hb
  refine ⟨whenBuilt_of_built hb _, whenBuilt_of_built hb _, whenBuilt_of_built hb _, fun lch lvol b hlow => ?_⟩
  rw [← low4_eq_of_mod_eq hlow]
  exact ⟨fun row => (Decodes.ltv0 row).decodeByte_eq, fun row => (Decodes.ltv1 row).decodeByte_eq,
    fun row => (Decodes.ltv2 row).decodeByte_eq⟩

/-- Settles O3: the control write with the reseed; the bytes are R100's LNC row. -/
theorem latchNoiseControlReseeds : Obligations.LatchNoiseControlReseeds := by
  intro s ty m hb
  refine ⟨whenBuilt_of_built hb _, fun lch lvol b row hm hty => ?_⟩
  rw [← modeBits_eq_of_mod_eq hm, ← noiseTypeOfBit_eq_of_iff hty]
  exact (Decodes.lnc row).decodeByte_eq

theorem exec_lnv_next {s : State} (hb : s.built = true) (v : Volume) :
    exec (.lnv v) s = .next ((s.setLatch 3 true).setNoise (s.noise.writeVolume v)) :=
  whenBuilt_of_built hb _

/-- Settles O4: the noise volume write; the bytes are R100's LNV row. -/
theorem latchNoiseVolumeReplacesVolume : Obligations.LatchNoiseVolumeReplacesVolume := by
  intro s v hb
  refine ⟨exec_lnv_next hb v, fun lch lvol b row hlow => ?_⟩
  rw [← low4_eq_of_mod_eq hlow]
  exact (Decodes.lnv row).decodeByte_eq

theorem exec_dnc_of_latched {s : State} (hb : s.built = true) (hch : s.latch.ch = 3#2) (hvol : s.latch.vol = false)
    (ty : NoiseType) (m : PeriodMode) : exec (.dnc ty m) s = .next (s.setNoise (s.noise.writeControl ty m)) :=
  (whenBuilt_of_built hb _).trans (withLatchedNoise_eq_next.2 ⟨hch, hvol, rfl⟩)

/-- Settles O7: the control write with the reseed; the bytes are R100's DNC row. -/
theorem dataNoiseControlReseeds : Obligations.DataNoiseControlReseeds := by
  intro s ty m hb hlatch
  have hch : s.latch.ch = 3#2 := congrArg Latch.ch hlatch
  have hvol : s.latch.vol = false := congrArg Latch.vol hlatch
  refine ⟨exec_dnc_of_latched hb hch hvol ty m, fun b row hm hty => ?_⟩
  rw [← modeBits_eq_of_mod_eq hm, ← noiseTypeOfBit_eq_of_iff hty]
  exact (Decodes.dnc row hch hvol).decodeByte_eq

/-! ## A data form in a latch state that is not its own (R100) -/

theorem withLatchedTone_refused {s : State} {vol : Bool} (h : ¬ (s.latch.ch ≠ 3#2 ∧ s.latch.vol = vol))
    (f : Fin 3 → State) : withLatchedTone vol s f = .refused .formNeedsLatch := by
  rw [withLatchedTone]
  cases hch : toneOfChannel s.latch.ch with
  | none => rfl
  | some i =>
    have hne : s.latch.ch ≠ 3#2 := fun h3 => by rw [(toneOfChannel_eq_none _).2 h3] at hch; cases hch
    exact if_neg fun hvol => h ⟨hne, hvol⟩

theorem withLatchedNoise_refused {s : State} {vol : Bool} (h : ¬ (s.latch.ch = 3#2 ∧ s.latch.vol = vol)) (t : State) :
    withLatchedNoise vol s t = .refused .formNeedsLatch := if_neg h

/-- Settles O9: a latch form fits every latch state, and a data form asks for its own. -/
theorem dataFormsStopOutsideTheirLatchState : Obligations.DataFormsStopOutsideTheirLatchState := by
  intro s i hb hi hfit
  cases i
  case construct | write | generateSample | generateSamples | reset => cases hi
  case ltp0 | ltv0 | ltp1 | ltv1 | ltp2 | ltv2 | lnc | lnv => cases hfit
  all_goals refine (whenBuilt_of_built hb _).trans ?_
  case dtp d | dtv v => exact withLatchedTone_refused (by simpa [Instr.fitsLatch] using hfit) _
  case dnc ty m | dnv v => exact withLatchedNoise_refused (by simpa [Instr.fitsLatch] using hfit) _

/-! ## Apply as a register write (R94, R95, R110) -/

/-- R95, the rows of a tone channel: which field a byte writes, and with what. -/
def Tone.writeByte (b : Byte) (vol : Bool) (t : Tone) : Tone :=
  if vol then t.writeVolume (low4 b)
  else if isLatchByte b then t.writePeriodLow (low4 b) else t.writePeriodHigh (low6 b)

/-- R95, the rows of the noise channel. -/
def Noise.writeByte (b : Byte) (vol : Bool) (n : Noise) : Noise :=
  if vol then n.writeVolume (low4 b) else n.writeControl (noiseTypeOfBit (b.getLsbD 2)) (modeBits b)

section WriteByte

variable (b : Byte) (vol : Bool) (t : Tone) (n : Noise)

theorem Tone.writeByte_period_toNat : (t.writeByte b vol).period.toNat =
    if vol = false then
      if isLatchByte b then 16 * (t.period.toNat / 16) + b.toNat % 16
      else 16 * (b.toNat % 64) + t.period.toNat % 16
    else t.period.toNat := by
  rw [Tone.writeByte, ← low4_toNat, ← low6_toNat]
  cases vol
  · cases isLatchByte b
    · exact withPeriodHigh_toNat ..
    · exact withPeriodLow_toNat ..
  · rfl

theorem Tone.writeByte_vol_toNat :
    (t.writeByte b vol).vol.toNat = if vol = true then b.toNat % 16 else t.vol.toNat := by
  rw [Tone.writeByte, ← low4_toNat]
  cases vol
  · cases isLatchByte b <;> rfl
  · rfl

theorem Noise.writeByte_type : (n.writeByte b vol).type =
    if vol = false then if b.toNat / 4 % 2 = 1 then .white else .periodic else n.type := by
  rw [Noise.writeByte, ← noiseTypeOfBit_eq]
  cases vol <;> rfl

theorem Noise.writeByte_mode_toNat :
    (n.writeByte b vol).mode.toNat = if vol = false then b.toNat % 4 else n.mode.toNat := by
  rw [Noise.writeByte, ← modeBits_toNat]
  cases vol <;> rfl

theorem Noise.writeByte_lfsr : (n.writeByte b vol).lfsr = if vol = false then 1 else n.lfsr := by
  rw [Noise.writeByte]
  cases vol <;> rfl

theorem Noise.writeByte_vol_toNat :
    (n.writeByte b vol).vol.toNat = if vol = true then b.toNat % 16 else n.vol.toNat := by
  rw [Noise.writeByte, ← low4_toNat]
  cases vol <;> rfl

end WriteByte

/-- R94: the even registers are the periods and the noise control. -/
theorem registerNumber_eq_two_mul_iff (ch : Channel) (vol : Bool) (i : ℕ) :
    registerNumber ch vol = 2 * i ↔ ch.toNat = i ∧ vol = false := by
  rw [registerNumber]
  cases vol
  · simp
  · simp
    omega

/-- R94: the odd registers are the volumes. -/
theorem registerNumber_eq_two_mul_add_one_iff (ch : Channel) (vol : Bool) (i : ℕ) :
    registerNumber ch vol = 2 * i + 1 ↔ ch.toNat = i ∧ vol = true := by
  rw [registerNumber]
  cases vol
  · simp
    omega
  · simp

theorem channelOfTone_toNat (i : Fin 3) : (channelOfTone i).toNat = i.val := by
  fin_cases i <;> rfl

/-- A channel number is a tone channel's or the noise channel's (R92). -/
theorem channel_eq_tone_or_noise (ch : Channel) : (∃ i, ch = channelOfTone i) ∨ ch = 3#2 := by
  revert ch; decide

theorem channelOfTone_ne_noise (i : Fin 3) : channelOfTone i ≠ 3#2 := by
  revert i; decide

section Apply

variable {s : State} {b : Byte} {i : Fin 3}

theorem exec_volumeForm_tone (hb : s.built = true) (i : Fin 3) (v : Volume) :
    exec (volumeForm (channelOfTone i) v) s = .next (latchToneVolume i v s) := by
  fin_cases i <;> exact whenBuilt_of_built hb _

theorem decodeLatchByte_tone (h : latchChannel b = channelOfTone i) :
    decodeLatchByte b =
      if latchIsVolume b then volumeForm (channelOfTone i) (low4 b) else latchPeriodForm i (low4 b) := by
  rw [decodeLatchByte, h]
  fin_cases i <;> rfl

theorem decodeLatchByte_noise (h : latchChannel b = 3#2) :
    decodeLatchByte b =
      if latchIsVolume b then .lnv (low4 b) else .lnc (noiseTypeOfBit (b.getLsbD 2)) (modeBits b) := by
  rw [decodeLatchByte, h]
  rfl

theorem latchFirst_of_latchByte (h : isLatchByte b = true) (s : State) :
    latchFirst b s = s.setLatch (latchChannel b) (latchIsVolume b) := if_pos h

theorem latchFirst_of_dataByte (h : isLatchByte b = false) (s : State) : latchFirst b s = s :=
  if_neg (ne_true_of_eq_false h)

theorem latchFirst_tone (b : Byte) (s : State) (i : Fin 3) : (latchFirst b s).tone i = s.tone i := by
  cases h : isLatchByte b
  · rw [latchFirst_of_dataByte h]
  · rw [latchFirst_of_latchByte h, State.tone_setLatch]

theorem latchFirst_noise (b : Byte) (s : State) : (latchFirst b s).noise = s.noise := by
  cases h : isLatchByte b
  · rw [latchFirst_of_dataByte h]
  · rw [latchFirst_of_latchByte h]; rfl

/-- In the latch state that a byte leaves, the byte sets no other. -/
theorem latchFirst_eq_self {t : State} (h : t.latch = (latchFirst b s).latch) : latchFirst b t = t := by
  cases hl : isLatchByte b
  · exact latchFirst_of_dataByte hl t
  · rw [latchFirst_of_latchByte hl] at h ⊢
    cases t; cases h; rfl

/-- R94, R110: with a tone channel latched, the byte goes to that channel. -/
theorem applyByte_tone (hb : s.built = true) (hch : (latchFirst b s).latch.ch = channelOfTone i) :
    applyByte b s =
      .next ((latchFirst b s).setTone i ((s.tone i).writeByte b (latchFirst b s).latch.vol)) := by
  rw [applyByte_eq_exec, Tone.writeByte]
  cases hl : isLatchByte b
  · rw [latchFirst_of_dataByte hl] at hch ⊢
    rw [decodeByte_eq_decodeDataByte hl]
    have hne : s.latch.ch ≠ 3#2 := hch ▸ channelOfTone_ne_noise i
    cases hvol : s.latch.vol <;> simp only [decodeDataByte, hne, if_false, if_true, Bool.false_eq_true]
    · exact exec_dtp_of_latched hb hvol hch _
    · exact exec_dtv_of_latched hb hvol hch _
  · rw [latchFirst_of_latchByte hl] at hch ⊢
    simp only [State.setLatch_latch] at hch ⊢
    rw [decodeByte_eq_decodeLatchByte hl, decodeLatchByte_tone hch, hch]
    cases latchIsVolume b
    · exact exec_latchPeriodForm hb i _
    · exact exec_volumeForm_tone hb i _

/-- R94, R110: with the noise channel latched, the byte goes to it. -/
theorem applyByte_noise (hb : s.built = true) (hch : (latchFirst b s).latch.ch = 3#2) :
    applyByte b s = .next ((latchFirst b s).setNoise (s.noise.writeByte b (latchFirst b s).latch.vol)) := by
  rw [applyByte_eq_exec, Noise.writeByte]
  cases hl : isLatchByte b
  · rw [latchFirst_of_dataByte hl] at hch ⊢
    rw [decodeByte_eq_decodeDataByte hl]
    cases hvol : s.latch.vol <;> simp only [decodeDataByte, hch, if_false, if_true, Bool.false_eq_true]
    · exact exec_dnc_of_latched hb hch hvol _ _
    · exact exec_dnv_of_latched hb hch hvol _
  · rw [latchFirst_of_latchByte hl] at hch ⊢
    simp only [State.setLatch_latch] at hch ⊢
    rw [decodeByte_eq_decodeLatchByte hl, decodeLatchByte_noise hch, hch]
    cases latchIsVolume b
    · exact whenBuilt_of_built hb _
    · exact whenBuilt_of_built hb _

/-- Both rules at once: of the four channels, the byte rewrites the one whose number is latched. -/
theorem applyByte_registers (hb : s.built = true) (b : Byte) :
    ∃ t, applyByte b s = .next t ∧ t.latch = (latchFirst b s).latch ∧
      (∀ j : Fin 3, t.tone j = if (latchFirst b s).latch.ch.toNat = j.val
        then (s.tone j).writeByte b (latchFirst b s).latch.vol else s.tone j) ∧
      t.noise = if (latchFirst b s).latch.ch.toNat = 3
        then s.noise.writeByte b (latchFirst b s).latch.vol else s.noise := by
  obtain ⟨i, hch⟩ | hch := channel_eq_tone_or_noise (latchFirst b s).latch.ch
  · refine ⟨_, applyByte_tone hb hch, State.setTone_latch .., fun j => ?_, ?_⟩ <;>
      rw [hch, channelOfTone_toNat]
    · rw [State.tone_setTone, latchFirst_tone]
      obtain rfl | hij := eq_or_ne j i
      · rw [if_pos rfl, if_pos rfl]
      · rw [if_neg hij, if_neg fun h => hij (Fin.ext h.symm)]
    · rw [State.setTone_noise, latchFirst_noise, if_neg (by omega)]
  · refine ⟨_, applyByte_noise hb hch, rfl, fun j => ?_, ?_⟩ <;> rw [hch]
    · rw [State.tone_setNoise, latchFirst_tone]
      exact (if_neg j.isLt.ne').symm
    · exact (if_pos rfl).symm

/-- The latch state that R94's two bits and R110 describe. -/
theorem latchFirst_latch_eq {isLatch vol : Bool} {ch : Channel} (hl : isLatch = true ↔ 128 ≤ b.toNat)
    (hch : ch.toNat = if isLatch then b.toNat / 32 % 4 else s.latch.ch.toNat)
    (hvol : vol = true ↔ if isLatch then b.toNat / 16 % 2 = 1 else s.latch.vol = true) :
    isLatch = isLatchByte b ∧ (latchFirst b s).latch = { ch := ch, vol := vol } := by
  obtain rfl : isLatch = isLatchByte b := Bool.eq_iff_iff.2 (hl.trans (isLatchByte_iff b).symm)
  refine ⟨rfl, ?_⟩
  cases h : isLatchByte b <;> rw [h] at hch hvol
  · rw [latchFirst_of_dataByte h, BitVec.eq_of_toNat_eq hch, Bool.eq_iff_iff.2 hvol]
  · rw [latchFirst_of_latchByte h, BitVec.eq_of_toNat_eq (hch.trans (latchChannel_toNat b).symm),
      Bool.eq_iff_iff.2 (hvol.trans (latchIsVolume_iff b).symm)]
    rfl

end Apply

theorem SameButRegisters.eq_with {s t : State} (h : SameButRegisters s t) :
    t = { s with tone0 := t.tone0, tone1 := t.tone1, tone2 := t.tone2, noise := t.noise, latch := t.latch } := by
  rw [← h.params, ← h.cfg, ← h.built, ← h.atten, ← h.warn, ← h.presc, ← h.queue, ← h.cycle, ← h.rem, ← h.ops,
    ← h.samples]

/-- Settles O10: R94's register number picks the channel and the field, R95 the value. -/
theorem applyByteFollowsRegisterMap : Obligations.ApplyByteFollowsRegisterMap := by
  intro s b hb
  obtain ⟨t, ht, hlatch, htone, hnoise⟩ := applyByte_registers hb b
  obtain ⟨t', ht', hsame⟩ := applyByte_next hb b
  cases ht.symm.trans ht'
  refine ⟨t, ht, fun isLatch ch vol r hl hch hvol hr => ?_, fun i => ⟨hsame.counter i, hsame.out i⟩,
    hsame.noise_counter, hsame.noise_edge, hsame.noise_out, hsame.eq_with⟩
  obtain ⟨rfl, hu⟩ := latchFirst_latch_eq hl hch hvol
  rw [hu] at hlatch htone hnoise
  change r = registerNumber ch vol at hr
  subst hr
  refine ⟨hlatch, fun i => ?_, fun i => ?_, ?_, ?_, ?_, ?_⟩
  · rw [htone, if_congr (registerNumber_eq_two_mul_iff ..) rfl rfl, ite_and, apply_ite (fun u : Tone => u.period.toNat),
      Tone.writeByte_period_toNat]
  · rw [htone, if_congr (registerNumber_eq_two_mul_add_one_iff ..) rfl rfl, ite_and,
      apply_ite (fun u : Tone => u.vol.toNat), Tone.writeByte_vol_toNat]
  · rw [hnoise, if_congr (registerNumber_eq_two_mul_iff ch vol 3) rfl rfl, ite_and,
      apply_ite Noise.type, Noise.writeByte_type]
  · rw [hnoise, if_congr (registerNumber_eq_two_mul_iff ch vol 3) rfl rfl, ite_and,
      apply_ite (fun n : Noise => n.mode.toNat), Noise.writeByte_mode_toNat]
  · rw [hnoise, if_congr (registerNumber_eq_two_mul_iff ch vol 3) rfl rfl, ite_and,
      apply_ite Noise.lfsr, Noise.writeByte_lfsr]
  · rw [hnoise, if_congr (registerNumber_eq_two_mul_add_one_iff ch vol 3) rfl rfl, ite_and,
      apply_ite (fun n : Noise => n.vol.toNat), Noise.writeByte_vol_toNat]

/-- Settles O11: what a command form leaves as it was. -/
theorem commandsNeverTouchTiming : Obligations.CommandsNeverTouchTiming := by
  intro i s t hi h
  have hsame := exec_command_sameButRegisters hi h
  exact ⟨fun k => ⟨hsame.counter k, hsame.out k⟩, hsame.noise_counter, hsame.noise_edge, hsame.noise_out,
    hsame.presc, hsame.cycle, hsame.rem, hsame.queue, hsame.atten, hsame.cfg, hsame.params⟩

/-! ## A byte applied again (R81, R238) -/

section Again

variable {s t : State} {b : Byte} {i : Fin 3}

theorem setTone_setTone (s : State) (i : Fin 3) (t u : Tone) : (s.setTone i t).setTone i u = s.setTone i u := by
  fin_cases i <;> rfl

theorem setTone_tone (s : State) (i : Fin 3) : s.setTone i (s.tone i) = s := by
  fin_cases i <;> rfl

theorem withPeriodLow_withPeriodLow (p : Count) (d : BitVec 4) :
    withPeriodLow (withPeriodLow p d) d = withPeriodLow p d := by
  have hd := d.isLt
  refine BitVec.eq_of_toNat_eq ?_
  simp only [withPeriodLow_toNat]
  omega

theorem withPeriodHigh_withPeriodHigh (p : Count) (d : BitVec 6) :
    withPeriodHigh (withPeriodHigh p d) d = withPeriodHigh p d := by
  refine BitVec.eq_of_toNat_eq ?_
  simp only [withPeriodHigh_toNat]
  omega

theorem Tone.writeByte_writeByte (b : Byte) (vol : Bool) (t : Tone) :
    (t.writeByte b vol).writeByte b vol = t.writeByte b vol := by
  unfold Tone.writeByte
  cases vol
  · cases isLatchByte b
    · exact congrArg (fun p => { t with period := p }) (withPeriodHigh_withPeriodHigh ..)
    · exact congrArg (fun p => { t with period := p }) (withPeriodLow_withPeriodLow ..)
  · rfl

theorem Noise.writeByte_writeByte (b : Byte) (vol : Bool) (n : Noise) :
    (n.writeByte b vol).writeByte b vol = n.writeByte b vol := by
  cases vol <;> rfl

/-- A control byte moves nothing but the LFSR of a noise channel that has its type and mode. -/
theorem Noise.writeByte_control_of_same {m n : Noise} (htype : n.type = (m.writeByte b false).type)
    (hmode : n.mode = (m.writeByte b false).mode) : n.writeByte b false = { n with lfsr := 1 } := by
  cases n; cases htype; cases hmode; rfl

/-- R81: with the latch state the byte leaves and a tone channel as the byte leaves it, Apply changes nothing. -/
theorem applyByte_of_written_tone {v : Tone} (hb : t.built = true) (hself : latchFirst b t = t)
    (hch : t.latch.ch = channelOfTone i) (htone : t.tone i = v.writeByte b t.latch.vol) :
    applyByte b t = .next t := by
  rw [applyByte_tone hb (hself.symm ▸ hch), hself, htone, Tone.writeByte_writeByte, ← htone, setTone_tone]

theorem applyByte_of_written_noise {m : Noise} (hb : t.built = true) (hself : latchFirst b t = t)
    (hch : t.latch.ch = 3#2) (hnoise : t.noise = m.writeByte b t.latch.vol) : applyByte b t = .next t := by
  rw [applyByte_noise hb (hself.symm ▸ hch), hself, hnoise, Noise.writeByte_writeByte, ← hnoise]
  rfl

/-- R238: with the type and mode that a control byte writes, Apply reseeds the LFSR, and that alone. -/
theorem applyByte_reseeds {m : Noise} (hb : t.built = true) (hself : latchFirst b t = t)
    (hlatch : t.latch = { ch := 3, vol := false }) (htype : t.noise.type = (m.writeByte b false).type)
    (hmode : t.noise.mode = (m.writeByte b false).mode) :
    applyByte b t = .next { t with noise := { t.noise with lfsr := 1 } } := by
  have hch : t.latch.ch = 3#2 := congrArg Latch.ch hlatch
  have hvol : t.latch.vol = false := congrArg Latch.vol hlatch
  rw [applyByte_noise hb (hself.symm ▸ hch), hself, hvol, Noise.writeByte_control_of_same htype hmode]
  rfl

end Again

/-- Settles O12: by the latched channel, whose registers hold what the byte writes. -/
theorem reapplyingAByteOnlyReseeds : Obligations.ReapplyingAByteOnlyReseeds := by
  intro s b hb
  obtain ⟨t, ht, hlatch, htone, hnoise⟩ := applyByte_registers hb b
  obtain ⟨t', ht', hsame⟩ := applyByte_next hb b
  cases ht.symm.trans ht'
  have hbt : t.built = true := hsame.built.trans hb
  rw [← hlatch] at htone hnoise
  refine ⟨t, ht, fun hne => ?_, fun h n => ?_, fun hl => ?_⟩
  · obtain ⟨i, hch⟩ | hch := channel_eq_tone_or_noise t.latch.ch
    · have hti := htone i
      rw [if_pos (by rw [hch, channelOfTone_toNat])] at hti
      exact applyByte_of_written_tone hbt (latchFirst_eq_self hlatch) hch hti
    · rw [if_pos (by rw [hch]; rfl)] at hnoise
      exact applyByte_of_written_noise hbt (latchFirst_eq_self hlatch) hch hnoise
  · have hkeep := advance_same n t
    have hch : t.latch.ch = 3#2 := congrArg Latch.ch h
    have hvol : t.latch.vol = false := congrArg Latch.vol h
    rw [if_pos (by rw [hch]; rfl), hvol] at hnoise
    exact applyByte_reseeds (hkeep.built.trans hbt) (latchFirst_eq_self (hkeep.latch.trans hlatch))
      (hkeep.latch.trans h) (hkeep.noise_type.trans (congrArg Noise.type hnoise))
      (hkeep.noise_mode.trans (congrArg Noise.mode hnoise))
  · exact hlatch.trans (congrArg State.latch (latchFirst_of_latchByte hl s))

/-! ## The two parts of a tone period (R77, R122) -/

section Period

variable {s : State} {i : Fin 3}

theorem withPeriodLow_withPeriodHigh_toNat (p : Count) (d4 : BitVec 4) (d6 : BitVec 6) :
    (withPeriodLow (withPeriodHigh p d6) d4).toNat = 16 * d6.toNat + d4.toNat := by
  rw [withPeriodLow_toNat, withPeriodHigh_toNat]
  omega

theorem withPeriodHigh_withPeriodLow_toNat (p : Count) (d4 : BitVec 4) (d6 : BitVec 6) :
    (withPeriodHigh (withPeriodLow p d4) d6).toNat = 16 * d6.toNat + d4.toNat := by
  have hd := d4.isLt
  rw [withPeriodHigh_toNat, withPeriodLow_toNat]
  omega

theorem withPeriodHigh_comm (p : Count) (d4 : BitVec 4) (d6 : BitVec 6) :
    withPeriodHigh (withPeriodLow p d4) d6 = withPeriodLow (withPeriodHigh p d6) d4 :=
  BitVec.eq_of_toNat_eq (by rw [withPeriodHigh_withPeriodLow_toNat, withPeriodLow_withPeriodHigh_toNat])

theorem runAll_pair {i j : Instr} {u t : State} (hi : exec i s = .next u) (hj : exec j u = .next t) :
    runAll [i, j] s = .next t := by
  rw [runAll, hi, andThen_next, runAll, hj]
  rfl

theorem exec_dtp_after_latchTonePeriod (hb : s.built = true) (i : Fin 3) (d4 : BitVec 4) (d6 : BitVec 6) :
    exec (.dtp d6) (latchTonePeriod i d4 s) = .next ((s.setLatch (channelOfTone i) false).setTone i
      { s.tone i with period := withPeriodHigh (withPeriodLow (s.tone i).period d4) d6 }) := by
  have hlatch : (latchTonePeriod i d4 s).latch = { ch := channelOfTone i, vol := false } := State.setTone_latch ..
  have hbuilt : (latchTonePeriod i d4 s).built = true := (State.setTone_built ..).trans hb
  rw [exec_dtp_of_latched hbuilt (congrArg Latch.vol hlatch) (congrArg Latch.ch hlatch), latchTonePeriod,
    State.tone_setTone_self, setTone_setTone]
  rfl

/-- LTP then DTP, from whatever latch state. -/
theorem runAll_latchPeriodForm_dtp (hb : s.built = true) (i : Fin 3) (d4 : BitVec 4) (d6 : BitVec 6) :
    runAll [latchPeriodForm i d4, .dtp d6] s = .next ((s.setLatch (channelOfTone i) false).setTone i
      { s.tone i with period := withPeriodHigh (withPeriodLow (s.tone i).period d4) d6 }) :=
  runAll_pair (exec_latchPeriodForm hb i d4) (exec_dtp_after_latchTonePeriod hb i d4 d6)

theorem setLatch_self {ch : Channel} {vol : Bool} (h : s.latch = { ch := ch, vol := vol }) : s.setLatch ch vol = s := by
  cases s; cases h; rfl

/-- DTP then LTP, with the channel latched for its period. -/
theorem runAll_dtp_latchPeriodForm (hb : s.built = true) (hlatch : s.latch = { ch := channelOfTone i, vol := false })
    (d4 : BitVec 4) (d6 : BitVec 6) :
    runAll [.dtp d6, latchPeriodForm i d4] s = .next (s.setTone i
      { s.tone i with period := withPeriodLow (withPeriodHigh (s.tone i).period d6) d4 }) := by
  have hfirst := exec_dtp_of_latched hb (congrArg Latch.vol hlatch) (congrArg Latch.ch hlatch) d6
  have hbuilt : (s.setTone i ((s.tone i).writePeriodHigh d6)).built = true := (State.setTone_built ..).trans hb
  have hlatch' : (s.setTone i ((s.tone i).writePeriodHigh d6)).latch = { ch := channelOfTone i, vol := false } :=
    (State.setTone_latch ..).trans hlatch
  rw [runAll_pair hfirst (exec_latchPeriodForm hbuilt i d4), latchTonePeriod, setLatch_self hlatch',
    State.tone_setTone_self, setTone_setTone]
  rfl

end Period

/-- Settles O13: either order assembles R122's period. -/
theorem periodPartsMayComeInEitherOrder : Obligations.PeriodPartsMayComeInEitherOrder := by
  intro s i d4 d6 hb hlatch
  have hfirst := runAll_latchPeriodForm_dtp hb i d4 d6
  rw [setLatch_self hlatch] at hfirst
  refine ⟨_, hfirst, ?_, ?_, ?_⟩
  · rw [runAll_dtp_latchPeriodForm hb hlatch, withPeriodHigh_comm]
  · rw [State.tone_setTone_self]
    exact withPeriodHigh_withPeriodLow_toNat ..
  · rw [State.tone_setTone_self]

/-! ## The pseudo-instructions (R102) -/

section Pseudo

variable {s : State}

/-- The low nibble and the high six bits make up a period. -/
theorem withPeriod_of_parts (q p : Count) :
    withPeriodHigh (withPeriodLow q (p.extractLsb' 0 4)) (p.extractLsb' 4 6) = p := by
  have hp := p.isLt
  refine BitVec.eq_of_toNat_eq ?_
  rw [withPeriodHigh_withPeriodLow_toNat, BitVec.extractLsb'_toNat, BitVec.extractLsb'_toNat,
    Nat.shiftRight_eq_div_pow, Nat.shiftRight_zero]
  omega

theorem runAll_singleton (i : Instr) (s : State) : runAll [i] s = exec i s := andThen_next_right _

theorem runAll_cons_of_next {i : Instr} {u : State} (h : exec i s = .next u) (rest : List Instr) :
    runAll (i :: rest) s = runAll rest u := by
  rw [runAll, h, andThen_next]

/-- The one channel whose number `ch` is takes the volume. -/
theorem exec_volumeForm (hb : s.built = true) (ch : Channel) (v : Volume) :
    ∃ t, exec (volumeForm ch v) s = .next t ∧ t.latch = { ch := ch, vol := true } ∧
      (∀ k : Fin 3, t.tone k = { s.tone k with vol := if ch.toNat = k.val then v else (s.tone k).vol }) ∧
      t.noise = { s.noise with vol := if ch.toNat = 3 then v else s.noise.vol } := by
  obtain ⟨i, rfl⟩ | rfl := channel_eq_tone_or_noise ch
  · refine ⟨_, exec_volumeForm_tone hb i v, State.setTone_latch .., fun k => ?_, ?_⟩ <;>
      rw [latchToneVolume, channelOfTone_toNat]
    · obtain rfl | hk := eq_or_ne k i
      · rw [State.tone_setTone_self, if_pos rfl]
        rfl
      · rw [State.tone_setTone_ne _ hk, if_neg fun h => hk (Fin.ext h.symm)]
        exact State.tone_setLatch ..
    · rw [State.setTone_noise, if_neg (by omega)]
      rfl
  · refine ⟨_, whenBuilt_of_built hb _, rfl, fun k => ?_, rfl⟩
    have hk : ¬ (3#2).toNat = k.val := k.isLt.ne'
    rw [if_neg hk, State.tone_setNoise, State.tone_setLatch]

theorem volumeForm_isCommand (ch : Channel) (v : Volume) : (volumeForm ch v).isCommand = true := by
  unfold volumeForm
  repeat' split
  all_goals rfl

theorem pseudoMute_eq : pseudoMute =
    [volumeForm (channelOfTone 0) 15, volumeForm (channelOfTone 1) 15, volumeForm (channelOfTone 2) 15, .lnv 15] := rfl

/-- The four volume forms one after another; each leaves a block that exists. -/
theorem runAll_pseudoMute (hb : s.built = true) : runAll pseudoMute s = .next { s with
    latch := { ch := 3, vol := true }
    tone0 := { s.tone0 with vol := 15 }
    tone1 := { s.tone1 with vol := 15 }
    tone2 := { s.tone2 with vol := 15 }
    noise := { s.noise with vol := 15 } } := by
  have hnext : ∀ {u : State}, u.built = true → ∀ i v, (latchToneVolume i v u).built = true := fun hu i v =>
    (State.setTone_built ..).trans hu
  have h1 := hnext hb 0 15
  have h2 := hnext h1 1 15
  have h3 := hnext h2 2 15
  rw [pseudoMute_eq, runAll_cons_of_next (exec_volumeForm_tone hb 0 15),
    runAll_cons_of_next (exec_volumeForm_tone h1 1 15), runAll_cons_of_next (exec_volumeForm_tone h2 2 15),
    runAll_singleton, exec_lnv_next h3]
  simp only [latchToneVolume, State.setLatch, State.setTone, State.setNoise, State.tone, Tone.writeVolume,
    Noise.writeVolume, channelOfTone]

theorem encode_latchPeriodForm (i : Fin 3) (d : BitVec 4) :
    encode (latchPeriodForm i d) = [0x80#8 + 32#8 * BitVec.ofNat 8 i.val + BitVec.ofNat 8 d.toNat] := by
  revert i d; decide

theorem encode_dtp (d : BitVec 6) : encode (.dtp d) = [BitVec.ofNat 8 d.toNat] := by
  revert d; decide

theorem lineWR_pseudoTone (i : Fin 3) (p : Count) : lineWR (pseudoTone i p) =
    [.write (0x80#8 + 32#8 * BitVec.ofNat 8 i.val + BitVec.ofNat 8 (p.toNat % 16)),
      .write (BitVec.ofNat 8 (p.toNat / 16))] := by
  have hp := p.isLt
  have hlow : (p.extractLsb' 0 4).toNat = p.toNat % 16 := BitVec.extractLsb'_toNat ..
  have hhigh : (p.extractLsb' 4 6).toNat = p.toNat / 16 := by
    rw [BitVec.extractLsb'_toNat, Nat.shiftRight_eq_div_pow]
    omega
  rw [← hlow, ← hhigh, lineWR, pseudoTone, List.flatMap_cons, encode_latchPeriodForm, List.flatMap_singleton,
    encode_dtp]
  rfl

end Pseudo

/-- Settles O14: each expansion runs form by form. -/
theorem pseudoInstructionsHaveTheirEffects : Obligations.PseudoInstructionsHaveTheirEffects := by
  intro s i p ch v ty m hb
  obtain ⟨t, ht, hlatch, htone, hnoise⟩ := exec_volumeForm hb ch v
  have hframe := (exec_command_sameButRegisters (volumeForm_isCommand ch v) ht).eq_with
  refine ⟨?_, ⟨t, (runAll_singleton ..).trans ht, hlatch, htone, hnoise, hframe⟩,
    (runAll_singleton ..).trans (whenBuilt_of_built hb _), runAll_pseudoMute hb, lineWR_pseudoTone i p⟩
  rw [pseudoTone, runAll_latchPeriodForm_dtp hb, withPeriod_of_parts]

/-! ## The decode vectors of the spec (95_test_vectors.md L2.1) -/

/-- Settles O18: each vector's byte is in the row of its form. -/
theorem decodeVectorsOfTheSpec : Obligations.DecodeVectorsOfTheSpec := by
  refine ⟨fun lch lvol => ⟨?_, ?_, ?_, ?_, ?_, ?_, ?_, ?_, ?_⟩, ?_⟩
  · exact (Decodes.ltp0 rfl).decodeByte_eq
  · exact (Decodes.ltv0 rfl).decodeByte_eq
  · exact (Decodes.ltp1 rfl).decodeByte_eq
  · exact (Decodes.ltv1 rfl).decodeByte_eq
  · exact (Decodes.ltp2 rfl).decodeByte_eq
  · exact (Decodes.ltv2 rfl).decodeByte_eq
  · exact (Decodes.lnc rfl).decodeByte_eq
  · exact (Decodes.lnc rfl).decodeByte_eq
  · exact (Decodes.lnv rfl).decodeByte_eq
  · decide

end Sys2Proof.Machine
end

section
/-! PROOFS. The periods of the noise sequences (spec/41_channel_tick.md R144). The Periodic type runs through as many
registers as it has bits. The White shift is linear over the bits of the register, so that `2k` shifts of the seed are
one linear map of `k` shifts of it, and a long run is evaluated by halving. -/

namespace Sys2Proof.Machine

/-! ## The exact period of a point -/

/-- A point returns after `n` rounds, and after no proper divisor of `n` that leaves out one prime. -/
theorem iterate_eq_self_iff {α : Type} {f : α → α} {x : α} {n : ℕ} (hn : f^[n] x = x)
    (hprime : ∀ p, p.Prime → p ∣ n → f^[n / p] x ≠ x) (k : ℕ) : f^[k] x = x ↔ k % n = 0 := by
  have hperiod : Function.minimalPeriod f x = n := by
    obtain ⟨a, ha⟩ := Function.IsPeriodicPt.minimalPeriod_dvd hn
    by_contra hne
    have ha1 : a ≠ 1 := by
      rintro rfl
      exact hne (by rw [ha, Nat.mul_one])
    obtain ⟨p, hp, c, rfl⟩ := Nat.exists_prime_and_dvd ha1
    have hdiv : n / p = Function.minimalPeriod f x * c := by
      rw [ha, Nat.mul_left_comm, Nat.mul_div_cancel_left _ hp.pos]
    have hc := (Function.isPeriodicPt_minimalPeriod f x).mul_const c
    rw [← hdiv] at hc
    exact hprime p hp ⟨_, by rw [ha, Nat.mul_left_comm]⟩ hc
  rw [← Nat.dvd_iff_mod_eq_zero, ← hperiod]
  exact Function.isPeriodicPt_iff_minimalPeriod_dvd

/-! ## The Periodic type -/

/-- What holds of the registers of one period holds of all, by the number of shifts modulo the period. -/
theorem iterate_periodic_of_residues {f : LfsrWord → LfsrWord} {n : ℕ} (hpos : 0 < n) (hn : f^[n] 1 = 1)
    (hres : ∀ r : Fin n, (f^[r.val] 1 = 1 ↔ r.val = 0) ∧ (lfsrOutput (f^[r.val] 1) = true ↔ r.val = 0)) (k : ℕ) :
    (f^[k] 1 = 1 ↔ k % n = 0) ∧ (lfsrOutput (f^[k] 1) = true ↔ k % n = 0) := by
  rw [← Function.IsPeriodicPt.iterate_mod_apply hn k]
  exact hres ⟨k % n, Nat.mod_lt k hpos⟩

/-- Settles O29: one period of each tap, register by register. -/
theorem periodicNoiseSequencePeriods : Obligations.PeriodicNoiseSequencePeriods := by
  intro k
  obtain ⟨h15, o15⟩ := iterate_periodic_of_residues (f := lfsrShifted .tap15 .periodic) (n := 15)
    (by decide) (by decide) (by decide) k
  obtain ⟨h16, o16⟩ := iterate_periodic_of_residues (f := lfsrShifted .tap16 .periodic) (n := 16)
    (by decide) (by decide) (by decide) k
  exact ⟨h15, h16, o15, o16⟩

/-! ## Maps that are linear over the bits -/

/-- A map of registers that goes through the exclusive or. -/
def IsLinear (g : LfsrWord → LfsrWord) : Prop := ∀ x y, g (x ^^^ y) = g x ^^^ g y

section Linear

variable {g h : LfsrWord → LfsrWord}

theorem IsLinear.map_zero (hg : IsLinear g) : g 0 = 0 := by
  have h0 := hg 0 0
  rwa [BitVec.xor_self, BitVec.xor_self] at h0

theorem IsLinear.comp (hg : IsLinear g) (hh : IsLinear h) : IsLinear fun x => g (h x) := fun x y => by
  dsimp only
  rw [hh, hg]

theorem isLinear_shiftLeft (n : ℕ) : IsLinear (· <<< n) := fun x y => BitVec.shiftLeft_xor_distrib x y n

theorem isLinear_ushiftRight (n : ℕ) : IsLinear (· >>> n) := fun x y => BitVec.ushiftRight_xor_distrib x y n

theorem IsLinear.xor (hg : IsLinear g) (hh : IsLinear h) : IsLinear fun x => g x ^^^ h x := fun x y => by
  dsimp only
  rw [hg, hh]
  ac_rfl

/-- A word of one value or another, by a bit that is linear. -/
theorem isLinear_ite {p : LfsrWord → Bool} (hp : ∀ x y, p (x ^^^ y) = (p x ^^ p y)) (c : LfsrWord) :
    IsLinear fun x => if p x then c else 0#16 := fun x y => by
  dsimp only
  rw [hp]
  cases p x <;> cases p y <;> simp

/-- A word is its low bit and the rest. -/
theorem eq_lowBit_xor_rest (x : LfsrWord) : x = (if x.getLsbD 0 then 1#16 else 0#16) ^^^ ((x >>> 1) <<< 1) := by
  refine BitVec.eq_of_getLsbD_eq fun i hi => ?_
  cases h : x.getLsbD 0 <;> cases i <;> simp_all [Nat.add_comm]

/-- Linear maps that agree on each bit agree. -/
theorem IsLinear.eq_of_bits {m : ℕ} (hg : IsLinear g) (hh : IsLinear h)
    (hbits : ∀ i < m, g (1#16 <<< i) = h (1#16 <<< i)) {x : LfsrWord} (hx : x.toNat < 2 ^ m) : g x = h x := by
  induction m generalizing g h x with
  | zero =>
    have hzero : x = 0 := BitVec.eq_of_toNat_eq (Nat.lt_one_iff.1 hx)
    rw [hzero, hg.map_zero, hh.map_zero]
  | succ m ih =>
    have hrest := ih (hg.comp (isLinear_shiftLeft 1)) (hh.comp (isLinear_shiftLeft 1))
      (fun i hi => by simpa only [BitVec.shiftLeft_add] using hbits (i + 1) (by omega))
      (x := x >>> 1) (by rw [BitVec.toNat_ushiftRight, Nat.shiftRight_eq_div_pow]; omega)
    have hlow : g (if x.getLsbD 0 then 1#16 else 0#16) = h (if x.getLsbD 0 then 1#16 else 0#16) := by
      split
      · exact hbits 0 (by omega)
      · exact hg.map_zero.trans hh.map_zero.symm
    rw [eq_lowBit_xor_rest x, hg, hh, hlow]
    exact congrArg _ hrest

end Linear

/-- A linear map by its values on the bits, the low bit's first. -/
def applyColumns : List LfsrWord → LfsrWord → LfsrWord
  | [], _ => 0#16
  | c :: cs, x => (if x.getLsbD 0 then c else 0#16) ^^^ applyColumns cs (x >>> 1)

theorem applyColumns_isLinear (cs : List LfsrWord) : IsLinear (applyColumns cs) := by
  induction cs with
  | nil => exact fun x y => (BitVec.xor_self).symm
  | cons c cs ih =>
    exact (isLinear_ite (fun x y => BitVec.getLsbD_xor) c).xor (ih.comp (isLinear_ushiftRight 1))

/-! ## The White shift as a linear map -/

/-- R140 with an exclusive or; the same as the shift on a register of the tap's width. -/
def linearShift (tap : TapConfig) (ty : NoiseType) (x : LfsrWord) : LfsrWord :=
  (x >>> 1) ^^^ (if feedback tap ty x then 1#16 <<< (lfsrWidth tap - 1) else 0#16)

theorem feedback_xor (tap : TapConfig) (ty : NoiseType) (x y : LfsrWord) :
    feedback tap ty (x ^^^ y) = (feedback tap ty x ^^ feedback tap ty y) := by
  have hcomm : ∀ a b c d : Bool, ((a ^^ b) ^^ (c ^^ d)) = ((a ^^ c) ^^ (b ^^ d)) := by decide
  cases tap <;> cases ty <;> simp only [feedback, BitVec.getLsbD_xor, Bool.xor_false, hcomm]

theorem linearShift_isLinear (tap : TapConfig) (ty : NoiseType) : IsLinear (linearShift tap ty) :=
  (isLinear_ushiftRight 1).xor (isLinear_ite (feedback_xor tap ty) _)

/-- The shifted register leaves the feedback's bit free. -/
theorem lfsrShifted_eq_linearShift {tap : TapConfig} {x : LfsrWord} (hx : x.toNat < 2 ^ lfsrWidth tap)
    (ty : NoiseType) : lfsrShifted tap ty x = linearShift tap ty x := by
  have htop : x.getLsbD (lfsrWidth tap) = false := Nat.testBit_lt_two_pow hx
  rw [lfsrShifted, linearShift]
  cases feedback tap ty x
  · simp
  · refine BitVec.eq_of_getLsbD_eq fun i hi => ?_
    have hbit : (x >>> 1).getLsbD (lfsrWidth tap - 1) = false := by
      rw [BitVec.getLsbD_ushiftRight, Nat.add_sub_cancel' (lfsrWidth_pos tap), htop]
    have hone : (BitVec.ofBool true).setWidth 16 = 1#16 := rfl
    rw [if_pos rfl, hone, BitVec.getLsbD_or, BitVec.getLsbD_xor, ← BitVec.twoPow_eq, BitVec.getLsbD_twoPow]
    obtain rfl | hne := eq_or_ne (lfsrWidth tap - 1) i
    · rw [hbit, Bool.false_or, Bool.false_xor]
    · simp [hne]

/-- Any number of shifts of the seed are as many of the linear shift. -/
theorem iterate_lfsrShifted_one {tap : TapConfig} (htap : tap ≠ .tapNone) (ty : NoiseType) (k : ℕ) :
    (lfsrShifted tap ty)^[k] 1 = (linearShift tap ty)^[k] 1 := by
  induction k with
  | zero => rfl
  | succ k ih =>
    obtain ⟨-, hlt⟩ := supportedLfsrIsNeverZero tap ty 1 k htap (lfsrInv_one tap).1 (by decide)
    rw [Function.iterate_succ_apply', Function.iterate_succ_apply', lfsrShifted_eq_linearShift hlt, ih]

/-! ## Squaring: from `k` White shifts to `2k` -/

/-- The register that `2k` shifts of the seed give, bit by bit of the one that `k` shifts give. The White shift obeys
`f^[15] = id + f` and `f^[16] = id + f^[3]`, so squaring a sum of its powers squares each. -/
def squareColumns : TapConfig → List LfsrWord
  | .tap15 => [0x1, 0x6, 0x18, 0x60, 0x180, 0x600, 0x1800, 0x6000,
      0x2, 0x8, 0x20, 0x80, 0x200, 0x800, 0x2000, 0x8000]
  | .tap16 => [0x1, 0x4, 0x12, 0x48, 0x120, 0x480, 0x1200, 0x4800,
      0x2001, 0x8004, 0x10, 0x40, 0x100, 0x400, 0x1000, 0x4000]
  | .tapNone => []

/-- The map is checked on the sixteen bits, where it turns one shift into two. -/
theorem square_linearShift (tap : TapConfig) (x : LfsrWord) :
    applyColumns (squareColumns tap) (linearShift tap .white x) =
      linearShift tap .white (linearShift tap .white (applyColumns (squareColumns tap) x)) := by
  have hshift := linearShift_isLinear tap .white
  have hsquare := applyColumns_isLinear (squareColumns tap)
  refine IsLinear.eq_of_bits (hsquare.comp hshift) (hshift.comp (hshift.comp hsquare)) ?_ x.isLt
  cases tap <;> decide

theorem square_iterate_linearShift {tap : TapConfig} (htap : tap ≠ .tapNone) (k : ℕ) :
    applyColumns (squareColumns tap) ((linearShift tap .white)^[k] 1) = (linearShift tap .white)^[2 * k] 1 := by
  have hone : applyColumns (squareColumns tap) 1 = 1 := by
    cases tap with
    | tapNone => exact absurd rfl htap
    | tap15 | tap16 => decide
  have hsemiconj : Function.Semiconj (applyColumns (squareColumns tap)) (linearShift tap .white)
      (linearShift tap .white)^[2] := square_linearShift tap
  rw [Function.iterate_mul, (hsemiconj.iterate_right k).eq, hone]

/-- `k` White shifts of the seed by the binary digits of `k < 2 ^ m`. -/
def whiteRegister (tap : TapConfig) : ℕ → ℕ → LfsrWord
  | 0, _ => 1
  | m + 1, k =>
    let x := applyColumns (squareColumns tap) (whiteRegister tap m (k / 2))
    if k % 2 = 1 then linearShift tap .white x else x

theorem whiteRegister_eq {tap : TapConfig} (htap : tap ≠ .tapNone) {m k : ℕ} (hk : k < 2 ^ m) :
    whiteRegister tap m k = (lfsrShifted tap .white)^[k] 1 := by
  rw [iterate_lfsrShifted_one htap]
  induction m generalizing k with
  | zero => rw [Nat.lt_one_iff.1 hk]; rfl
  | succ m ih =>
    rw [whiteRegister, ih (by omega), square_iterate_linearShift htap]
    split
    next hodd =>
      rw [← Function.iterate_succ_apply' (linearShift tap .white), show (2 * (k / 2)).succ = k by omega]
    next heven => rw [show 2 * (k / 2) = k by omega]

set_option maxRecDepth 4000 in
/-- The whole of R144's period brings the seed back, and the parts of it that leave out one prime of
32767 = 7 × 31 × 151 do not. -/
theorem white_tap15_registers :
    whiteRegister .tap15 15 32767 = 1 ∧ whiteRegister .tap15 15 (32767 / 7) ≠ 1 ∧
      whiteRegister .tap15 15 (32767 / 31) ≠ 1 ∧ whiteRegister .tap15 15 (32767 / 151) ≠ 1 := by
  decide

theorem white_tap15_period (k : ℕ) : (lfsrShifted .tap15 .white)^[k] 1 = 1 ↔ k % 32767 = 0 := by
  obtain ⟨hfull, h7, h31, h151⟩ := white_tap15_registers
  rw [whiteRegister_eq (by decide) (by decide)] at hfull h7 h31 h151
  refine iterate_eq_self_iff hfull (fun p hp hdvd => ?_) k
  have hfactors : p ∣ 7 * 31 * 151 := hdvd
  rw [hp.dvd_mul, hp.dvd_mul, Nat.prime_dvd_prime_iff_eq hp (by norm_num),
    Nat.prime_dvd_prime_iff_eq hp (by norm_num), Nat.prime_dvd_prime_iff_eq hp (by norm_num)] at hfactors
  obtain (rfl | rfl) | rfl := hfactors
  exacts [h7, h31, h151]

set_option maxRecDepth 4000 in
/-- The same for 57337 = 7 × 8191. -/
theorem white_tap16_registers :
    whiteRegister .tap16 16 57337 = 1 ∧ whiteRegister .tap16 16 (57337 / 7) ≠ 1 ∧
      whiteRegister .tap16 16 (57337 / 8191) ≠ 1 := by
  decide

theorem white_tap16_period (k : ℕ) : (lfsrShifted .tap16 .white)^[k] 1 = 1 ↔ k % 57337 = 0 := by
  obtain ⟨hfull, h7, h8191⟩ := white_tap16_registers
  rw [whiteRegister_eq (by decide) (by decide)] at hfull h7 h8191
  refine iterate_eq_self_iff hfull (fun p hp hdvd => ?_) k
  have hfactors : p ∣ 7 * 8191 := hdvd
  rw [hp.dvd_mul, Nat.prime_dvd_prime_iff_eq hp (by norm_num),
    Nat.prime_dvd_prime_iff_eq hp (by norm_num)] at hfactors
  obtain rfl | rfl := hfactors
  exacts [h7, h8191]

/-- Settles O30: the full period returns, and no part of it that leaves out one prime does. -/
theorem whiteNoiseSequencePeriods : Obligations.WhiteNoiseSequencePeriods := fun k =>
  ⟨white_tap15_period k, white_tap16_period k⟩

end Sys2Proof.Machine
end

section
/-! PROOFS. The mixer against real arithmetic (spec/42_rate_and_mix.md R170 to R174): the mix as a quotient, the table
as rounded powers of ten, and why rounding never moves a sample: no four entries of the table add up to within two of a
multiple of 2^18, unless each of them is exact. -/

namespace Sys2Proof.Machine

/-! ## The mix as a number (R172, R173) -/

theorem mixSum_div_le (s : State) : mixSum s / 262144 ≤ 32767 := by
  have h := mixSum_lt s
  omega

theorem clamp_natCast {n : ℕ} (h : n ≤ 32767) : clamp (n : ℤ) (-32768) 32767 = n := by
  unfold clamp
  omega

/-- The clamp and the sixteen bits of the sample change nothing. -/
theorem mix_eq_ofNat (s : State) : mix s = BitVec.ofNat 16 (mixSum s / 262144) := by
  rw [mix, Nat.shiftRight_eq_div_pow, clamp_natCast (mixSum_div_le s), BitVec.ofInt_natCast]

theorem mix_toNat (s : State) : (mix s).toNat = mixSum s / 262144 := by
  have h := mixSum_div_le s
  rw [mix_eq_ofNat, BitVec.toNat_ofNat, Nat.mod_eq_of_lt (by omega)]

theorem mix_toInt (s : State) : (mix s).toInt = (mixSum s / 262144 : ℕ) := by
  have h := mixSum_div_le s
  rw [BitVec.toInt_eq_toNat_of_lt (by rw [mix_toNat]; omega), mix_toNat]

theorem contribution_default_le (o : Bool) (v : Volume) : contribution ampQ16Default o v ≤ 2147418112 := by
  revert o v; decide

theorem mixSum_default_le {s : State} (h : s.atten = ampQ16Default) : mixSum s ≤ 8589672448 := by
  have h0 := contribution_default_le s.tone0.out s.tone0.vol
  have h1 := contribution_default_le s.tone1.out s.tone1.vol
  have h2 := contribution_default_le s.tone2.out s.tone2.vol
  have h3 := contribution_default_le s.noise.out s.noise.vol
  rw [mixSum, h]
  omega

/-- Settles O40: the accumulator is the sum over the channels, and the mix reads nothing else. -/
theorem mixSumsTheSoundingChannels : Obligations.MixSumsTheSoundingChannels := by
  refine ⟨fun s => ⟨?_, ?_, ?_, mixSum_default_le⟩, fun s t hatten htone hout hvol => mix_congr ?_⟩
  · rw [mix_toNat, mixSum_eq_sum]
    rfl
  · rw [mix_toInt]
    exact Int.natCast_nonneg _
  · rw [mix_toInt]
    exact_mod_cast mixSum_div_le s
  · simp only [mixSum_eq_sum, hatten, htone, hout, hvol]

/-! ## Powers of ten by their tenth powers (R171) -/

/-- R170: the amplitude of an attenuation of `i` steps of 2 dB. -/
noncomputable def idealAmplitude (i : ℕ) : ℝ := (10 : ℝ) ^ (-(i : ℝ) / 10)

theorem idealAmplitude_nonneg (i : ℕ) : 0 ≤ idealAmplitude i := Real.rpow_nonneg (by norm_num) _

theorem idealAmplitude_pow_ten (i : ℕ) : idealAmplitude i ^ 10 * 10 ^ i = 1 := by
  have hexp : -(i : ℝ) / 10 * (10 : ℕ) = -(i : ℝ) := by
    push_cast
    ring
  rw [idealAmplitude, ← Real.rpow_natCast, ← Real.rpow_mul (by norm_num), hexp, Real.rpow_neg (by norm_num),
    Real.rpow_natCast]
  exact inv_mul_cancel₀ (by positivity)

theorem mul_idealAmplitude_pow_ten (c i : ℕ) : (c * idealAmplitude i) ^ 10 * 10 ^ i = (c : ℝ) ^ 10 := by
  rw [mul_pow, mul_assoc, idealAmplitude_pow_ten, mul_one]

theorem le_mul_idealAmplitude {m c i : ℕ} (h : m ^ 10 * 10 ^ i ≤ c ^ 10) : (m : ℝ) ≤ c * idealAmplitude i := by
  have hcast : (m : ℝ) ^ 10 * 10 ^ i ≤ (c * idealAmplitude i) ^ 10 * 10 ^ i := by
    rw [mul_idealAmplitude_pow_ten]
    exact_mod_cast h
  exact le_of_pow_le_pow_left₀ (by norm_num) (by have := idealAmplitude_nonneg i; positivity)
    (le_of_mul_le_mul_right hcast (by positivity))

theorem mul_idealAmplitude_lt {m c i : ℕ} (h : c ^ 10 < m ^ 10 * 10 ^ i) : c * idealAmplitude i < (m : ℝ) := by
  have hcast : (c * idealAmplitude i) ^ 10 * 10 ^ i < (m : ℝ) ^ 10 * 10 ^ i := by
    rw [mul_idealAmplitude_pow_ten]
    exact_mod_cast h
  exact lt_of_pow_lt_pow_left₀ 10 (by positivity) (lt_of_mul_lt_mul_right hcast (by positivity))

/-- Each entry but the last is within a half of `2147418112 × 10^(-i/10)`, by the tenth powers of twice the two. -/
theorem tableEntry_tenth_powers (i : Fin 15) :
    (2 * (ampQ16Default[i.val]).toNat - 1) ^ 10 * 10 ^ i.val ≤ 4294836224 ^ 10 ∧
      4294836224 ^ 10 < (2 * (ampQ16Default[i.val]).toNat + 1) ^ 10 * 10 ^ i.val := by
  revert i; decide

theorem tableEntry_near (i : Fin 15) :
    ((ampQ16Default[i.val]).toNat : ℝ) - 1 / 2 ≤ 2147418112 * idealAmplitude i ∧
      2147418112 * idealAmplitude i < (ampQ16Default[i.val]).toNat + 1 / 2 := by
  obtain ⟨hle, hlt⟩ := tableEntry_tenth_powers i
  have hlow := le_mul_idealAmplitude hle
  have hhigh := mul_idealAmplitude_lt hlt
  have hsub : (2 * ((ampQ16Default[i.val]).toNat : ℝ)) - 1 ≤ ((2 * (ampQ16Default[i.val]).toNat - 1 : ℕ) : ℝ) := by
    have h : 2 * (ampQ16Default[i.val]).toNat ≤ 2 * (ampQ16Default[i.val]).toNat - 1 + 1 := by omega
    rw [sub_le_iff_le_add]
    exact_mod_cast h
  push_cast at hlow hhigh
  constructor <;> linarith

/-- Settles O43: rounding is the floor of the value plus a half. -/
theorem attenuationTableIsTheRoundedFormula : Obligations.AttenuationTableIsTheRoundedFormula := by
  refine ⟨fun i => ?_, rfl, by decide⟩
  obtain ⟨hlow, hhigh⟩ := tableEntry_near i
  have hscale : (32767 * 2 ^ 16 * (10 : ℝ) ^ (-(i.val : ℝ) / 10)) = 2147418112 * idealAmplitude i := by
    rw [idealAmplitude]
    norm_num
  rw [hscale, eq_comm, Int.floor_eq_iff]
  push_cast
  constructor <;> linarith

/-! ## Why rounding moves no sample (R174) -/

/-- An entry of the table, and whether it is rounded: full volume and silence are exact. -/
def level (v : Volume) : ℕ × ℕ := (amplitude ampQ16Default v, if v = 0 ∨ v = 15 then 0 else 1)

theorem level_zero : level 0 = (2147418112, 0) := rfl

theorem level_fifteen : level 15 = (0, 0) := rfl

/-- The sixteen levels a channel can be at. -/
def levels : List (ℕ × ℕ) := (List.finRange 16).map fun i => level (BitVec.ofFin i)

theorem level_mem_levels (v : Volume) : level v ∈ levels := List.mem_map.2 ⟨v.toFin, List.mem_finRange _, rfl⟩

/-- A sum `x` of entries, `k` of them rounded, lies at least `k / 2` above one multiple of 2^18 and more than `k / 2`
below the next. -/
def clearOfMultiples (x k : ℕ) : Bool := decide (k ≤ 2 * (x % 262144)) && decide (2 * (x % 262144) + k < 524288)

/-- Whether `x` with any `m` entries of the list added, each as often as one likes, is clear of the multiples. -/
def sumsClear : ℕ → ℕ → List (ℕ × ℕ) → ℕ → ℕ → Bool
  | 0, _, _, _, _ => false
  | _ + 1, 0, _, x, k => clearOfMultiples x k
  | _ + 1, _ + 1, [], _, _ => true
  | fuel + 1, m + 1, p :: ps, x, k =>
    sumsClear fuel m (p :: ps) (x + p.1) (k + p.2) && sumsClear fuel (m + 1) ps x k

/-- Either the first entry is among those added, and is added first, or the rest of the list holds them all. -/
theorem clearOfMultiples_of_sumsClear {fuel m : ℕ} {ps c : List (ℕ × ℕ)} {x k : ℕ}
    (h : sumsClear fuel m ps x k = true) (hlen : c.length = m) (hc : c ⊆ ps) :
    clearOfMultiples (x + (c.map Prod.fst).sum) (k + (c.map Prod.snd).sum) = true := by
  induction fuel generalizing m ps c x k with
  | zero => cases h
  | succ fuel ih =>
    match m, ps with
    | 0, _ =>
      rw [List.length_eq_zero_iff.1 hlen]
      exact h
    | m + 1, [] => rw [List.subset_nil.1 hc] at hlen; cases hlen
    | m + 1, p :: ps =>
      obtain ⟨hfirst, hrest⟩ := Bool.and_eq_true_iff.1 h
      by_cases hp : p ∈ c
      · have hperm := List.perm_cons_erase hp
        have hlen' : (c.erase p).length = m := by rw [List.length_erase_of_mem hp, hlen]; rfl
        have hclear := ih hfirst hlen' (List.Subset.trans List.erase_subset hc)
        rw [(hperm.map Prod.fst).sum_eq, (hperm.map Prod.snd).sum_eq]
        simpa [Nat.add_assoc] using hclear
      · have hc' : c ⊆ ps := fun q hq => (List.mem_cons.1 (hc hq)).resolve_left fun h => hp (h ▸ hq)
        exact ih hrest hlen hc'

theorem sumsClear_levels : sumsClear 21 4 levels 0 0 = true := by
  decide

/-- A value that differs from such a sum by at most its roundings has the same quotient. -/
theorem floor_div_eq_of_clear {x k : ℕ} {y : ℝ} (hclear : clearOfMultiples x k = true)
    (hnear : |(x : ℝ) - y| ≤ k / 2) : ⌊y / 262144⌋ = (x / 262144 : ℕ) := by
  obtain ⟨hbelow, habove⟩ := Bool.and_eq_true_iff.1 hclear
  have hbelow' : (k : ℝ) ≤ 2 * (x % 262144 : ℕ) := by exact_mod_cast of_decide_eq_true hbelow
  have habove' : 2 * (x % 262144 : ℕ) + (k : ℝ) < 524288 := by exact_mod_cast of_decide_eq_true habove
  have hx : (x : ℝ) = 262144 * (x / 262144 : ℕ) + (x % 262144 : ℕ) := by exact_mod_cast (Nat.div_add_mod x 262144).symm
  obtain ⟨hlow, hhigh⟩ := abs_le.1 hnear
  rw [Int.floor_eq_iff, Int.cast_natCast, le_div_iff₀ (by norm_num), div_lt_iff₀ (by norm_num)]
  constructor <;> linarith

/-- R170: what a channel adds to the ideal sum. -/
def idealContribution (A : Volume → ℝ) (o : Bool) (v : Volume) : ℝ := if o then A v else 0

section Ideal

variable {A : Volume → ℝ} (hA : ∀ v, A v = if v = 15 then 0 else (10 : ℝ) ^ (-(2 * (v.toNat : ℝ)) / 20))
include hA

theorem amplitude_fifteen : A 15 = 0 := (hA 15).trans (if_pos rfl)

theorem amplitude_of_ne_fifteen {v : Volume} (hv : v ≠ 15) : A v = idealAmplitude v.toNat := by
  have hexp : -(2 * (v.toNat : ℝ)) / 20 = -(v.toNat : ℝ) / 10 := by ring
  rw [hA, if_neg hv, hexp, idealAmplitude]

/-- An entry of the table is within its rounding of the ideal amplitude. -/
theorem level_near (v : Volume) : |((level v).1 : ℝ) - 2147418112 * A v| ≤ ((level v).2 : ℝ) / 2 := by
  obtain rfl | h15 := eq_or_ne v 15
  · rw [amplitude_fifteen hA, level_fifteen]
    simp
  · obtain rfl | h0 := eq_or_ne v 0
    · have hone : idealAmplitude 0 = 1 := by simp [idealAmplitude]
      rw [amplitude_of_ne_fifteen hA h15, level_zero, show (0 : Volume).toNat = 0 from rfl, hone]
      simp
    · have hlt : v.toNat < 15 := by bv_omega
      obtain ⟨hlow, hhigh⟩ := tableEntry_near ⟨v.toNat, hlt⟩
      have hone : (level v).2 = 1 := if_neg (not_or.2 ⟨h0, h15⟩)
      rw [amplitude_of_ne_fifteen hA h15, hone, abs_le]
      have hentry : (level v).1 = (ampQ16Default[v.toNat]).toNat := rfl
      rw [hentry]
      push_cast
      constructor <;> linarith

/-- A silent channel counts as one at volume 15. -/
theorem exists_level_of_channel (o : Bool) (v : Volume) :
    ∃ u, (level u).1 = contribution ampQ16Default o v ∧ A u = idealContribution A o v := by
  cases o
  · exact ⟨15, rfl, amplitude_fifteen hA⟩
  · exact ⟨v, rfl, rfl⟩

end Ideal

/-- Four channels at the levels of the table: the fixed-point quotient is the floor of the ideal one. -/
theorem floor_ideal_eq {A : Volume → ℝ}
    (hA : ∀ v, A v = if v = 15 then 0 else (10 : ℝ) ^ (-(2 * (v.toNat : ℝ)) / 20)) (v0 v1 v2 v3 : Volume) :
    ⌊32767 * (A v0 + A v1 + A v2 + A v3) / 4⌋ =
      (((level v0).1 + (level v1).1 + (level v2).1 + (level v3).1) / 262144 : ℕ) := by
  have hsub : [level v0, level v1, level v2, level v3] ⊆ levels := by
    simp [level_mem_levels]
  have hclear := clearOfMultiples_of_sumsClear sumsClear_levels rfl hsub
  simp only [List.map_cons, List.map_nil, List.sum_cons, List.sum_nil, Nat.zero_add, Nat.add_zero,
    ← Nat.add_assoc] at hclear
  have hscale : 32767 * (A v0 + A v1 + A v2 + A v3) / 4 =
      2147418112 * (A v0 + A v1 + A v2 + A v3) / 262144 := by ring
  rw [hscale]
  refine floor_div_eq_of_clear hclear ?_
  obtain ⟨l0, u0⟩ := abs_le.1 (level_near hA v0)
  obtain ⟨l1, u1⟩ := abs_le.1 (level_near hA v1)
  obtain ⟨l2, u2⟩ := abs_le.1 (level_near hA v2)
  obtain ⟨l3, u3⟩ := abs_le.1 (level_near hA v3)
  push_cast
  rw [abs_le]
  constructor <;> linarith

/-- Settles O42: each channel is at a level of the table, and the quotient lies within the clamp. -/
theorem mixIsTheIdealRealValue : Obligations.MixIsTheIdealRealValue := by
  intro s A hatten hA
  obtain ⟨v0, hc0, hi0⟩ := exists_level_of_channel hA s.tone0.out s.tone0.vol
  obtain ⟨v1, hc1, hi1⟩ := exists_level_of_channel hA s.tone1.out s.tone1.vol
  obtain ⟨v2, hc2, hi2⟩ := exists_level_of_channel hA s.tone2.out s.tone2.vol
  obtain ⟨v3, hc3, hi3⟩ := exists_level_of_channel hA s.noise.out s.noise.vol
  have hsum : mixSum s = (level v0).1 + (level v1).1 + (level v2).1 + (level v3).1 := by
    rw [mixSum, hatten, hc0, hc1, hc2, hc3]
  have hideal : (∑ i : Fin 3, if (s.tone i).out then A (s.tone i).vol else 0) +
      (if s.noise.out then A s.noise.vol else 0) = A v0 + A v1 + A v2 + A v3 := by
    rw [Fin.sum_univ_three, hi0, hi1, hi2, hi3]
    rfl
  rw [hideal, floor_ideal_eq hA, ← hsum, clamp_natCast (mixSum_div_le s), mix_toInt]

end Sys2Proof.Machine
end

section
/-! PROOFS. The step against the decoder, silence after a RESET, and the reset values (spec/42_rate_and_mix.md R164,
spec/70_reset_and_hazards.md R232, spec/43_host_operations.md R190, R194). -/

namespace Sys2Proof.Machine

/-! ## What a step runs (R15, R164) -/

section Step

variable {s : State}

/-- One round, with the chip cycles written out and the byte's form decoded against the latch state that stood before
them. -/
theorem sampleTo_head {w : PendingWrite} {q : List PendingWrite} {T : Nat} (hq : s.queue = w :: q)
    (hc : s.cycle ≤ w.target) (hT : w.target ≤ T) :
    sampleTo T s =
      andThen (exec (decodeByte s.latch.ch s.latch.vol w.byte)
          (((advance (w.target - s.cycle) s).setCycle w.target).setQueue q)) (sampleTo T) := by
  have hlatch : (((advance (w.target - s.cycle) s).setCycle w.target).setQueue q).latch = s.latch :=
    (advance_same _ s).latch
  rw [sampleTo_of_due hq hT, applyAt_setQueue hc, applyByte_eq_exec, hlatch]

end Step

/-- Settles O19: the step takes one operation, and a sample one due byte at a time. -/
theorem stepRunsTheDecodedInstruction : Obligations.StepRunsTheDecodedInstruction := by
  refine ⟨fun s op rest h => step_of_ops_cons h, fun s h => step_of_ops_nil h, fun s rest hb h => ?_,
    fun s w q T hq hc hT => sampleTo_head hq hc hT⟩
  rw [step_of_ops_cons h]
  exact exec_generateSample (s := s.setOps rest) hb

/-- The one byte of an eight-bit word. -/
theorem tableBytes_toNat (b : Byte) : tableBytes 8 b.toNat = [b] := by
  have hbyte : BitVec.ofNat 8 (b.toNat / 256 ^ 0) = b := by
    rw [pow_zero, Nat.div_one, BitVec.ofNat_toNat, BitVec.setWidth_eq]
  exact congrArg (fun c => [c]) hbyte

theorem withFetchWord_eq (s : State) (b : Byte) :
    s.withFetchWord 8 b.toNat = (s.setQueue [pendingWrite b s.cycle]).setOps (.generateSample :: s.ops) := by
  rw [State.withFetchWord, placeWord, tableBytes_toNat]

/-- A byte that stands alone in the queue and is due at once is applied first, and nothing is due behind it. -/
theorem generateSample_of_due_now (s : State) (b : Byte) :
    generateSample (s.setQueue [pendingWrite b s.cycle]) =
      andThen (exec (decodeByte s.latch.ch s.latch.vol b) (rateStep (s.setQueue [])))
        (finishSample (s.cycle + rateCycles s)) := by
  have hdue : s.cycle ≤ s.cycle + rateCycles s := Nat.le_add_right ..
  change sampleTo (s.cycle + rateCycles s) ((rateStep s).setQueue [pendingWrite b s.cycle]) = _
  rw [sampleTo_of_due (s := (rateStep s).setQueue [pendingWrite b s.cycle]) rfl hdue]
  change andThen (applyAt (pendingWrite b s.cycle) (rateStep (s.setQueue []))) _ = _
  rw [applyAt_of_target_eq (s := rateStep (s.setQueue [])) rfl]
  refine (andThen_congr fun t ht => sampleTo_of_not_due ?_).trans (congrArg (andThen · _) (applyByte_eq_exec ..))
  have hempty : t.queue = [] := applyByte_queue ht
  rw [State.headDue, hempty]

/-- Settles O20: the placed byte is the one due byte of the next step's sample. -/
theorem fetchedWordRunsInTheNextStep : Obligations.FetchedWordRunsInTheNextStep := by
  intro s b hb
  have hops : (s.withFetchWord 8 b.toNat).ops = .generateSample :: s.ops := by
    rw [withFetchWord_eq]
    rfl
  rw [step_of_ops_cons hops, withFetchWord_eq]
  exact (exec_generateSample (s := s.setQueue [pendingWrite b s.cycle]) hb).trans (generateSample_of_due_now s b)

/-! ## Silence after a RESET (R232) -/

/-- With nothing queued and every volume at 15, a block has no way to sound. -/
structure Muted (s : State) : Prop where
  queue : s.queue = []
  tones : ∀ i, (s.tone i).vol = 15
  noise : s.noise.vol = 15
  table : s.atten = ampQ16Default

section Silence

variable {s : State}

theorem muted_resetRegisters (h : s.atten = ampQ16Default) : Muted (resetRegisters s) where
  queue := rfl
  tones i := by fin_cases i <;> rfl
  noise := rfl
  table := h

theorem Muted.of_sameButChannels {t : State} (h : Muted s) (hsame : SameButChannels s t) : Muted t where
  queue := hsame.queue.trans h.queue
  tones i := (hsame.vol i).trans (h.tones i)
  noise := hsame.noise_vol.trans h.noise
  table := hsame.atten.trans h.table

theorem Muted.mix_eq_zero (h : Muted s) : mix s = 0 := by
  have hsum : mixSum s = 0 := by
    simp only [mixSum_eq_sum, h.table, h.tones, h.noise, contribution_fifteen, Finset.sum_const_zero]
  rw [mix_eq_ofNat, hsum]
  rfl

theorem Muted.rateStep (h : Muted s) : Muted (rateStep s) where
  queue := h.queue
  tones i := (congrArg Tone.vol (State.tone_setRem ..)).trans (h.tones i)
  noise := h.noise
  table := h.table

theorem Muted.setCycle_pushSample (h : Muted s) (c : ℕ) (v : Sample) : Muted ((s.setCycle c).pushSample v) where
  queue := h.queue
  tones i := (congrArg Tone.vol ((State.tone_pushSample ..).trans (State.tone_setCycle ..))).trans (h.tones i)
  noise := h.noise
  table := h.table

/-- A sample of a muted block is 0 and leaves it muted. -/
theorem Muted.generateSample (h : Muted s) :
    ∃ t, generateSample s = .next t ∧ t.samples = s.samples ++ [0] ∧ Muted t := by
  have hsame := advance_same (rateCycles s) (Machine.rateStep s)
  have hmuted := h.rateStep.of_sameButChannels hsame
  have hlater : ∀ w ∈ s.queue, s.cycle + rateCycles s < w.target := by
    rw [h.queue]
    exact List.forall_mem_nil _
  refine ⟨_, generateSample_of_all_later hlater rfl, ?_, hmuted.setCycle_pushSample ..⟩
  rw [State.pushSample_samples, State.setCycle_samples, hsame.samples, hmuted.mix_eq_zero]
  rfl

theorem Muted.generateSamples {n : ℕ} (h : Muted s) :
    ∃ t, generateSamples n s = .next t ∧ t.samples = s.samples ++ List.replicate n 0 := by
  induction n generalizing s with
  | zero => exact ⟨s, rfl, (List.append_nil _).symm⟩
  | succ n ih =>
    obtain ⟨u, hu, hsamples, hmuted⟩ := h.generateSample
    obtain ⟨t, ht, htsamples⟩ := ih hmuted
    refine ⟨t, ?_, ?_⟩
    · rw [Machine.generateSamples, hu, andThen_next, ht]
    · rw [htsamples, hsamples, List.append_assoc, List.singleton_append, ← List.replicate_succ]

end Silence

/-- Settles O50: the reset mutes the block, and no sample unmutes it. -/
theorem silenceAfterReset : Obligations.SilenceAfterReset := by
  intro s n hb hatten
  obtain ⟨t, ht, hsamples⟩ := (muted_resetRegisters hatten).generateSamples (n := n)
  refine ⟨t, ?_, hsamples⟩
  exact runAll_pair (exec_reset_next hb) ((exec_generateSamples (s := resetRegisters s) hb n).trans ht)

/-! ## The values that RESET and CONSTRUCT leave (R58, R190, R194) -/

theorem resetRegisters_resetRegisters (s : State) : resetRegisters (resetRegisters s) = resetRegisters s := by
  cases h : s.params.resetClearsTiming <;> simp [resetRegisters, h]

/-- Settles O47: a reset writes constants, and leaves the timing or clears it. -/
theorem resetRestoresPowerOnValues : Obligations.ResetRestoresPowerOnValues := by
  intro s hb
  refine ⟨resetRegisters s, exec_reset_next hb, ?_, rfl⟩
  rw [exec_reset_next (s := resetRegisters s) hb, resetRegisters_resetRegisters]

theorem tapOfWidth_eq_tap15_iff (w : ℤ) : tapOfWidth w = .tap15 ↔ w = 15 := by
  unfold tapOfWidth
  split
  · simp [*]
  · split <;> simp [*]

theorem tapOfWidth_eq_tap16_iff (w : ℤ) : tapOfWidth w = .tap16 ↔ w = 16 := by
  unfold tapOfWidth
  split
  · simp [*]
  · split <;> simp [*]

theorem configWarning_tapOfWidth_iff (w : ℤ) : configWarning (tapOfWidth w) = true ↔ w ≠ 15 ∧ w ≠ 16 := by
  rw [ne_eq, ne_eq, ← tapOfWidth_eq_tap15_iff, ← tapOfWidth_eq_tap16_iff]
  cases tapOfWidth w <;> decide

/-- Settles O44: the reset that CONSTRUCT ends in leaves the fresh block of its configuration. -/
theorem constructBuildsTheBlock : Obligations.ConstructBuildsTheBlock := by
  refine ⟨fun s c r w hc hr => ?_, fun s c r w h => exec_construct_refused h w s⟩
  have hanswer := exec_construct_of_rates hc hr w s
  refine ⟨_, hanswer, Int.toNat_of_nonneg (by omega), Int.toNat_of_nonneg (by omega), tapOfWidth_eq_tap15_iff w,
    tapOfWidth_eq_tap16_iff w, configWarning_tapOfWidth_iff w, ?_⟩
  exact (exec_construct_fresh hanswer).symm

/-- Settles O60: the reset state is what a reset of it leaves. -/
theorem resetStateHasTheSpecsValues : Obligations.ResetStateHasTheSpecsValues := by
  refine ⟨fun i => ?_, rfl, rfl, rfl, rfl, rfl, rfl, rfl, rfl, rfl, rfl, exec_reset_next rfl⟩
  fin_cases i <;> rfl

end Sys2Proof.Machine
end
